-- ==== Sys2Proof/Word.lean ====
section
/-! DEFINITION. The word types of the PT2258 command sequencer: the widths the spec gives to a byte
of the bus, to a device address and to a packed command word (spec/00_scope.md R9,
spec/30_encoding.md R80, spec/10_state.md R21). -/

namespace Sys2Proof

/-- A byte of the two-wire bus; bit 0 is its least significant bit (R9). -/
abbrev Byte := BitVec 8

/-- A 7-bit device address, the stored form (R21, R50). -/
abbrev Addr7 := BitVec 7

/-- A packed command word `CW[15:0]` (R92). -/
abbrev CmdWord := BitVec 16

/-- The low nibble of a wire byte: the `STEP` field of format S (R81). -/
abbrev Nibble := BitVec 4

end Sys2Proof
end

