-- ==== Sys2Proof/Config.lean ====
section
/-! DEFINITION. What an implementation fixes: the constant tables (spec/00_scope.md R7,
spec/10_state.md R23), the open parameters `DETAIL_W` and `F_CLK`, with the tick count and the width of the
settle timer made from the latter (R8, R20, R32, R261),
and the free values (spec/93_implementation_defined.md U14). -/

namespace Sys2Proof

/-- The transient datapath latches (R26), each with the smallest width that holds its range.
They live for one command; no later command reads them. -/
structure Latches where
  /-- `CLAMPED`, 0..100 (R141). -/
  clamped : BitVec 7
  /-- `FLIPPED`, 0..100 (R142). -/
  flipped : BitVec 7
  /-- `PROD`, 0..7900 (R143). -/
  prod : BitVec 13
  /-- `A79`, 0..79 (R143). -/
  a79 : BitVec 7
  /-- `TENS`, 0..7 (R146). -/
  tens : BitVec 3
  /-- `ONES`, 0..9 (R146). -/
  ones : BitVec 4
  /-- `COARSE`, the first payload byte. -/
  coarse : Byte
  /-- `FINE`, the second payload byte. -/
  fine : Byte
  deriving DecidableEq, Repr, Inhabited

namespace Config

/-- `DETAIL_W`, the width of the transport's error detail: OPEN in the spec (R8, D8), so it has no body here
and every statement holds for each width (notes/assumptions/12). -/
opaque detailW : Nat

/-- `OP_CLEAR` (R7, R23). -/
def opClear : Byte := 0xC0
/-- `OP_MUTE_ON` (R7, R23). -/
def opMuteOn : Byte := 0xF9
/-- `OP_MUTE_OFF` (R7, R23). -/
def opMuteOff : Byte := 0xF8
/-- The coarse byte of every control frame (R85). -/
def controlCoarse : Byte := 0x00
/-- `MASTER_COARSE_BASE` (R7, R23). -/
def masterCoarseBase : Byte := 0xD0
/-- `MASTER_FINE_BASE` (R7, R23). -/
def masterFineBase : Byte := 0xE0

/-- `CH_COARSE_BASE[0..5]`, indexed by ChannelIndex: entry `i` is physical channel `i+1` (R23). -/
def chCoarseBase : Fin 6 → Byte
  | 0 => 0x80 | 1 => 0x40 | 2 => 0x00 | 3 => 0x20 | 4 => 0x60 | 5 => 0xA0

/-- `CH_FINE_BASE[0..5]` (R23). The table is taken, not its relation to `CH_COARSE_BASE`. -/
def chFineBase : Fin 6 → Byte
  | 0 => 0x90 | 1 => 0x50 | 2 => 0x10 | 3 => 0x30 | 4 => 0x70 | 5 => 0xB0

/-- `ADDR8_SET`, the legal operands of NEW: the 8-bit form (R7, R23). -/
def addr8Set : List Int := [0x8C, 0x88, 0x84, 0x80]

/-- `VOL_MIN`, `VOL_MAX` (R7): also the `in_min`, `in_max` of MAP_VOLUME's admitted tuple (R148). -/
def volMin : Int := 0
def volMax : Int := 100
/-- `ATT_MIN`, `ATT_MAX` (R7): the `out_min`, `out_max` of MAP_VOLUME's admitted tuple (R148). -/
def attMin : Int := 0
def attMax : Int := 79
/-- `FLIP`, the literal of the inversion step (R142); it is not `in_max` (R149, R300). -/
def flip : Int := 100
/-- `N_CH`: a channel index is 0..5 (R7). -/
def nCh : Int := 6
/-- `SETTLE_MS` (R7). -/
def settleMs : Nat := 200

/-- `F_CLK`, the clock frequency in Hz: OPEN in the spec (R8, D9), so it has no body here and every
statement holds for each value. A frequency is a positive whole number (notes/assumptions/10). -/
opaque fClk : ℕ+

/-- `SETTLE_TICKS = ceil(0.2 * F_CLK)` (R8, R261): rounding up keeps the wait at 200 ms or more. -/
def settleTicks : Nat := ((fClk : Nat) + 4) / 5

/-- The width of `TIMER`: `ceil(log2(SETTLE_TICKS + 1))` bits (R20). -/
def timerW : Nat := Nat.clog 2 (settleTicks + 1)

/-- What the latches hold after the n-th transaction has been answered: `any value`, a free draw
(U14, R26). It has no body: no proof can use what it is (notes/assumptions/9). -/
opaque latchDraw : Nat → Latches

end Config

/-- The transport's error detail: an opaque value of `DETAIL_W` bits that is copied and never read
(R55, R69, R244, D8). -/
abbrev Detail := BitVec Config.detailW

/-- The settle down-counter's word (R20, R32). -/
abbrev TimerWord := BitVec Config.timerW

/-- What entry to phase SETTLE loads into `TIMER`: `SETTLE_TICKS` (R32), which its width holds. -/
def Config.settleLoad : TimerWord := BitVec.ofNat Config.timerW Config.settleTicks

end Sys2Proof
end

