-- ==== Sys2Proof/Syntax.lean ====
section
/-! DEFINITION. The syntax: one constructor for each row of spec/opcode_table.json. Three kinds of
row meet in this block (spec/30_encoding.md, its opening): 5 commands the sequencer accepts (R91),
17 wire op-codes it hands to the transport byte by byte (R82), and 10 frames, the whole two-byte
payloads of a transaction (R86). -/

namespace Sys2Proof

/-- An instruction of the opcode table. -/
inductive Instr where
  -- Commands (R91). Integers outside the legal ranges are legal operands.
  /-- NEW(address : Z, tp : Bool): the 8-bit form of the address, transport present (R120). -/
  | new (address : Int) (tp : Bool)
  /-- INIT (R160). -/
  | init
  /-- SET_MASTER(volume : Z) (R175). -/
  | setMaster (volume : Int)
  /-- SET_CHANNEL(channel : Z, volume : Z) (R190). -/
  | setChannel (channel volume : Int)
  /-- SET_MUTE(enabled : Bool) (R205). -/
  | setMute (enabled : Bool)
  -- Wire op-codes (R82): format K carries no operand, format S a step.
  | clear
  | muteOn
  | muteOff
  | master10db (step : Nibble)
  | master1db (step : Nibble)
  | ch1x10db (step : Nibble)
  | ch2x10db (step : Nibble)
  | ch3x10db (step : Nibble)
  | ch4x10db (step : Nibble)
  | ch5x10db (step : Nibble)
  | ch6x10db (step : Nibble)
  | ch1x1db (step : Nibble)
  | ch2x1db (step : Nibble)
  | ch3x1db (step : Nibble)
  | ch4x1db (step : Nibble)
  | ch5x1db (step : Nibble)
  | ch6x1db (step : Nibble)
  -- Frames (R86): shape C carries no operand, shape V the two digits.
  | fClear
  | fMuteOn
  | fMuteOff
  | fMaster (tens : BitVec 3) (ones : Nibble)
  | fCh1 (tens : BitVec 3) (ones : Nibble)
  | fCh2 (tens : BitVec 3) (ones : Nibble)
  | fCh3 (tens : BitVec 3) (ones : Nibble)
  | fCh4 (tens : BitVec 3) (ones : Nibble)
  | fCh5 (tens : BitVec 3) (ones : Nibble)
  | fCh6 (tens : BitVec 3) (ones : Nibble)
  deriving DecidableEq, Repr

/-- The three kinds of row of the opcode table. -/
inductive Kind where
  | command
  | wireByte
  | frame
  deriving DecidableEq, Repr

/-- The kind of an instruction's row. -/
def Instr.kind : Instr → Kind
  | .new _ _ => .command
  | .init => .command
  | .setMaster _ => .command
  | .setChannel _ _ => .command
  | .setMute _ => .command
  | .clear => .wireByte
  | .muteOn => .wireByte
  | .muteOff => .wireByte
  | .master10db _ => .wireByte
  | .master1db _ => .wireByte
  | .ch1x10db _ => .wireByte
  | .ch2x10db _ => .wireByte
  | .ch3x10db _ => .wireByte
  | .ch4x10db _ => .wireByte
  | .ch5x10db _ => .wireByte
  | .ch6x10db _ => .wireByte
  | .ch1x1db _ => .wireByte
  | .ch2x1db _ => .wireByte
  | .ch3x1db _ => .wireByte
  | .ch4x1db _ => .wireByte
  | .ch5x1db _ => .wireByte
  | .ch6x1db _ => .wireByte
  | .fClear => .frame
  | .fMuteOn => .frame
  | .fMuteOff => .frame
  | .fMaster _ _ => .frame
  | .fCh1 _ _ => .frame
  | .fCh2 _ _ => .frame
  | .fCh3 _ _ => .frame
  | .fCh4 _ _ => .frame
  | .fCh5 _ _ => .frame
  | .fCh6 _ _ => .frame

end Sys2Proof
end

