-- ==== Sys2Proof/WellFormed.lean ====
section
/-! DEFINITION. Which instructions have an encoding. A command is well formed when its operands fit
the fields of the packed command word (spec/30_encoding.md R92, R93): operands outside the legal
ranges of a command are well formed, since they are what the errors exist for (R91). A wire op-code
or a frame is well formed when its steps are ones the sequencer emits (R82, R86, R89). -/

namespace Sys2Proof

/-- A volume the 8-bit two's complement field `VOL` holds (R93). -/
abbrev volumeFits (v : Int) : Bool := decide (-128 ≤ v) && decide (v ≤ 127)
/-- A channel the 4-bit two's complement field `CH` holds (R93). -/
abbrev channelFits (c : Int) : Bool := decide (-8 ≤ c) && decide (c ≤ 7)
/-- An address the 8-bit unsigned field `ADDR` holds (R93). -/
abbrev addressFits (a : Int) : Bool := decide (0 ≤ a) && decide (a ≤ 255)
/-- A step a 10 dB op-code is emitted with: 0..7 (R82). -/
abbrev tensEmitted (k : Nibble) : Bool := decide (k ≤ 7)
/-- A step a 1 dB op-code is emitted with: 0..9 (R82). -/
abbrev onesEmitted (k : Nibble) : Bool := decide (k ≤ 9)

/-- Well-formedness, constructor by constructor. -/
def Instr.wellFormed : Instr → Bool
  | .new a _ => addressFits a
  | .init => true
  | .setMaster v => volumeFits v
  | .setChannel c v => channelFits c && volumeFits v
  | .setMute _ => true
  | .clear => true
  | .muteOn => true
  | .muteOff => true
  | .master10db k => tensEmitted k
  | .master1db k => onesEmitted k
  | .ch1x10db k => tensEmitted k
  | .ch2x10db k => tensEmitted k
  | .ch3x10db k => tensEmitted k
  | .ch4x10db k => tensEmitted k
  | .ch5x10db k => tensEmitted k
  | .ch6x10db k => tensEmitted k
  | .ch1x1db k => onesEmitted k
  | .ch2x1db k => onesEmitted k
  | .ch3x1db k => onesEmitted k
  | .ch4x1db k => onesEmitted k
  | .ch5x1db k => onesEmitted k
  | .ch6x1db k => onesEmitted k
  | .fClear => true
  | .fMuteOn => true
  | .fMuteOff => true
  | .fMaster _ o => onesEmitted o
  | .fCh1 _ o => onesEmitted o
  | .fCh2 _ o => onesEmitted o
  | .fCh3 _ o => onesEmitted o
  | .fCh4 _ o => onesEmitted o
  | .fCh5 _ o => onesEmitted o
  | .fCh6 _ o => onesEmitted o

end Sys2Proof
end

