-- ==== Sys2Proof/Decode.lean ====
section
/-! DEFINITION. Decoding and encoding. Two encodings meet in the block (spec/30_encoding.md, its
opening): the command encoding, what the sequencer accepts on its command port (R92, R93), and the
wire encoding, what it emits: wire op-codes (R82) and frames (R86). Which of them a word is read in
is said by where the word stands, never by the word itself (`Encoded`); an opcode-table word, which
stands nowhere, is read by the row that fits it best (`tableReading`, notes/assumptions/6). -/

namespace Sys2Proof

/-- Why bits have no reading. The decoder rejects by name (R94, R89). -/
inductive DecodeError where
  /-- `OP` is 5, 6 or 7 (R94). -/
  | reservedOp
  /-- `OP` is a command's, and a bit that must be zero is not (R92, R94). -/
  | mustBeZero
  /-- A byte no row of R82 matches (R89). -/
  | undefinedByte
  /-- Two bytes no row of R86 matches (R89). -/
  | undefinedFrame
  deriving DecidableEq, Repr

/-- Bits with the place they stand in: the command port, one byte of a payload, a whole payload.
A payload is two bytes in order and is never packed into a number (R53). -/
inductive Encoded where
  | command (w : CmdWord)
  | wire (b : Byte)
  | frame (b0 b1 : Byte)
  deriving DecidableEq, Repr

/-! ### Fields (R92, R93) -/

/-- `OP = CW[15:13]`. -/
def fieldOp (w : CmdWord) : BitVec 3 := w.extractLsb' 13 3
/-- `address = zext(CW[7:0])`, 0..255. -/
def fieldAddress (w : CmdWord) : Int := ((w.extractLsb' 0 8).toNat : Int)
/-- `tp = (CW[8] = 1)`. -/
def fieldTp (w : CmdWord) : Bool := w.getLsbD 8
/-- `volume = sext(CW[7:0])`, -128..127. -/
def fieldVolume (w : CmdWord) : Int := (w.extractLsb' 0 8).toInt
/-- `channel = sext(CW[11:8])`, -8..7. -/
def fieldChannel (w : CmdWord) : Int := (w.extractLsb' 8 4).toInt
/-- `enabled = (CW[0] = 1)`. -/
def fieldEnabled (w : CmdWord) : Bool := w.getLsbD 0
/-- `STEP = b[3:0]` (R81). -/
def fieldStep (b : Byte) : Nibble := b.extractLsb' 0 4
/-- The tens digit of a 10 dB op-code inside a frame: bits 2..0 (R83, R86). -/
def fieldTens (b : Byte) : BitVec 3 := b.extractLsb' 0 3

/-! ### Decoding -/

/-- A command word (R92): the five rows by match and mask, everything else reserved (R94). -/
def decodeCommand (w : CmdWord) : Except DecodeError Instr :=
  if w &&& 0xFE00 = 0x0000 then .ok (.new (fieldAddress w) (fieldTp w))
  else if w &&& 0xFFFF = 0x2000 then .ok .init
  else if w &&& 0xFF00 = 0x4000 then .ok (.setMaster (fieldVolume w))
  else if w &&& 0xF000 = 0x6000 then .ok (.setChannel (fieldChannel w) (fieldVolume w))
  else if w &&& 0xFFFE = 0x8000 then .ok (.setMute (fieldEnabled w))
  else if fieldOp w ≤ 4 then .error .mustBeZero
  else .error .reservedOp

/-- A wire byte (R82): the three format-K rows before the format-S rows. A step that is never
emitted still matches its row's mask (R82, V-WIRE); `Instr.wellFormed` and the meanings refuse it. -/
def decodeWire (b : Byte) : Except DecodeError Instr :=
  if b = 0xC0 then .ok .clear
  else if b = 0xF9 then .ok .muteOn
  else if b = 0xF8 then .ok .muteOff
  else if b &&& 0xF0 = 0xD0 then .ok (.master10db (fieldStep b))
  else if b &&& 0xF0 = 0xE0 then .ok (.master1db (fieldStep b))
  else if b &&& 0xF0 = 0x80 then .ok (.ch1x10db (fieldStep b))
  else if b &&& 0xF0 = 0x40 then .ok (.ch2x10db (fieldStep b))
  else if b &&& 0xF0 = 0x00 then .ok (.ch3x10db (fieldStep b))
  else if b &&& 0xF0 = 0x20 then .ok (.ch4x10db (fieldStep b))
  else if b &&& 0xF0 = 0x60 then .ok (.ch5x10db (fieldStep b))
  else if b &&& 0xF0 = 0xA0 then .ok (.ch6x10db (fieldStep b))
  else if b &&& 0xF0 = 0x90 then .ok (.ch1x1db (fieldStep b))
  else if b &&& 0xF0 = 0x50 then .ok (.ch2x1db (fieldStep b))
  else if b &&& 0xF0 = 0x10 then .ok (.ch3x1db (fieldStep b))
  else if b &&& 0xF0 = 0x30 then .ok (.ch4x1db (fieldStep b))
  else if b &&& 0xF0 = 0x70 then .ok (.ch5x1db (fieldStep b))
  else if b &&& 0xF0 = 0xB0 then .ok (.ch6x1db (fieldStep b))
  else .error .undefinedByte

/-- A frame (R86): shape C by its two bytes, shape V by the op-codes of one target. -/
def decodeFrame (b0 b1 : Byte) : Except DecodeError Instr :=
  if b0 = 0x00 ∧ b1 = 0xC0 then .ok .fClear
  else if b0 = 0x00 ∧ b1 = 0xF9 then .ok .fMuteOn
  else if b0 = 0x00 ∧ b1 = 0xF8 then .ok .fMuteOff
  else if b0 &&& 0xF8 = 0xD0 ∧ b1 &&& 0xF0 = 0xE0 then .ok (.fMaster (fieldTens b0) (fieldStep b1))
  else if b0 &&& 0xF8 = 0x80 ∧ b1 &&& 0xF0 = 0x90 then .ok (.fCh1 (fieldTens b0) (fieldStep b1))
  else if b0 &&& 0xF8 = 0x40 ∧ b1 &&& 0xF0 = 0x50 then .ok (.fCh2 (fieldTens b0) (fieldStep b1))
  else if b0 &&& 0xF8 = 0x00 ∧ b1 &&& 0xF0 = 0x10 then .ok (.fCh3 (fieldTens b0) (fieldStep b1))
  else if b0 &&& 0xF8 = 0x20 ∧ b1 &&& 0xF0 = 0x30 then .ok (.fCh4 (fieldTens b0) (fieldStep b1))
  else if b0 &&& 0xF8 = 0x60 ∧ b1 &&& 0xF0 = 0x70 then .ok (.fCh5 (fieldTens b0) (fieldStep b1))
  else if b0 &&& 0xF8 = 0xA0 ∧ b1 &&& 0xF0 = 0xB0 then .ok (.fCh6 (fieldTens b0) (fieldStep b1))
  else .error .undefinedFrame

/-- The decoder: total on any bits in any of the three places. -/
def decode : Encoded → Except DecodeError Instr
  | .command w => decodeCommand w
  | .wire b => decodeWire b
  | .frame b0 b1 => decodeFrame b0 b1

/-! ### Encoding -/

/-- A wire op-code of format S with its step in the low nibble (R81, R83). -/
def stepByte (base : Byte) (step : Nibble) : Byte := base ||| step.setWidth 8

/-- A frame of shape V (R86). -/
def volumeFrame (coarseBase fineBase : Byte) (tens : BitVec 3) (ones : Nibble) : Encoded :=
  .frame (coarseBase ||| tens.setWidth 8) (stepByte fineBase ones)

/-- The field `CH` in its place, bits 11..8 (R92). -/
def channelField (c : Int) : CmdWord := BitVec.shiftLeft ((BitVec.ofInt 4 c).setWidth 16) 8

/-- The field in bits 7..0: `ADDR` or `VOL` (R92). -/
def lowField (v : Int) : CmdWord := (BitVec.ofInt 8 v).setWidth 16

/-- The bits of an instruction, from the tables R92, R82 and R86. -/
def encode : Instr → Encoded
  | .new a tp => .command ((if tp then 0x0100 else 0x0000) ||| lowField a)
  | .init => .command 0x2000
  | .setMaster v => .command (0x4000 ||| lowField v)
  | .setChannel c v => .command (0x6000 ||| channelField c ||| lowField v)
  | .setMute en => .command (if en then 0x8001 else 0x8000)
  | .clear => .wire 0xC0
  | .muteOn => .wire 0xF9
  | .muteOff => .wire 0xF8
  | .master10db k => .wire (stepByte 0xD0 k)
  | .master1db k => .wire (stepByte 0xE0 k)
  | .ch1x10db k => .wire (stepByte 0x80 k)
  | .ch2x10db k => .wire (stepByte 0x40 k)
  | .ch3x10db k => .wire (stepByte 0x00 k)
  | .ch4x10db k => .wire (stepByte 0x20 k)
  | .ch5x10db k => .wire (stepByte 0x60 k)
  | .ch6x10db k => .wire (stepByte 0xA0 k)
  | .ch1x1db k => .wire (stepByte 0x90 k)
  | .ch2x1db k => .wire (stepByte 0x50 k)
  | .ch3x1db k => .wire (stepByte 0x10 k)
  | .ch4x1db k => .wire (stepByte 0x30 k)
  | .ch5x1db k => .wire (stepByte 0x70 k)
  | .ch6x1db k => .wire (stepByte 0xB0 k)
  | .fClear => .frame 0x00 0xC0
  | .fMuteOn => .frame 0x00 0xF9
  | .fMuteOff => .frame 0x00 0xF8
  | .fMaster t o => volumeFrame 0xD0 0xE0 t o
  | .fCh1 t o => volumeFrame 0x80 0x90 t o
  | .fCh2 t o => volumeFrame 0x40 0x50 t o
  | .fCh3 t o => volumeFrame 0x00 0x10 t o
  | .fCh4 t o => volumeFrame 0x20 0x30 t o
  | .fCh5 t o => volumeFrame 0x60 0x70 t o
  | .fCh6 t o => volumeFrame 0xA0 0xB0 t o

/-- How many bits an encoding has (R80): 16, 8 or 2 bytes. -/
def encodedBits : Encoded → Nat
  | .command _ => 16
  | .wire _ => 8
  | .frame _ _ => 16

/-! ### Reading a word of the opcode table -/

/-- A 16-bit word of the table as a frame: the table numbers it as `b0` in bits 15:8 and `b1` in bits 7:0. -/
def tableFrame (w : Nat) : Encoded := .frame (BitVec.ofNat 8 (w / 256)) (BitVec.ofNat 8 w)

/-- The place of a 16-bit word of the table. Some words match the row of a frame and the row of a command:
one the sequencer emits as a frame is read as that frame, whose row always has more fixed bits; one it never
emits (R89) is read as the command, where it is one (notes/assumptions/6). -/
def tableReading16 (w : Nat) : Encoded :=
  match decode (tableFrame w), decodeCommand (BitVec.ofNat 16 w) with
  | .ok i, .ok _ => if i.wellFormed then tableFrame w else .command (BitVec.ofNat 16 w)
  | .ok _, .error _ => tableFrame w
  | .error _, _ => .command (BitVec.ofNat 16 w)

/-- In which place a word of the opcode table stands. The machine never calls this: `step` reads each word
in the place it stands in. -/
def tableReading (nbits w : Nat) : Option Encoded :=
  if w < 2 ^ nbits then
    if nbits = 8 then some (.wire (BitVec.ofNat 8 w))
    else if nbits = 16 then some (tableReading16 w)
    else none
  else none

/-- The instruction a word of the opcode table is read as. -/
def decodeTableWord (nbits w : Nat) : Option Instr :=
  match tableReading nbits w with
  | none => none
  | some e => (decode e).toOption

end Sys2Proof
end

