-- ==== Sys2Proof/Machine/State.lean ====
section
/-! DEFINITION. What the machine is made of: the state (spec/10_state.md R20 to R33), the results and
events that are its observation (spec/00_scope.md R13), the inputs it samples (spec/20_memory.md R69,
spec/60_exceptions.md R263, spec/70_reset_and_hazards.md R281), and the reasons it stops
(spec/60_exceptions.md R258, spec/10_state.md R22). -/

namespace Sys2Proof.Machine

/-- `PHASE`, the program counter of this block (R24). -/
inductive Phase where
  /-- Not constructed; NEW only. -/
  | off
  /-- The settle delay is running; busy. -/
  | settle
  /-- A bus write is in flight; busy. -/
  | write
  /-- Constructed and idle. -/
  | ready
  deriving DecidableEq, Repr

/-- The transport's answer to a transaction (R55). -/
inductive TxStatus where
  | ok
  | nack
  | fail (detail : Detail)
  deriving DecidableEq, Repr

/-- The cause tag of a ConfigurationError (R241). -/
inductive ConfigCause where
  | noTransport
  | badAddress
  deriving DecidableEq, Repr

/-- The cause tag of a ValidationError (R242). -/
inductive ValidationCause where
  | volume
  | channel
  deriving DecidableEq, Repr

/-- The four error kinds (R240). DeviceNotFoundError carries nothing; CommunicationError carries the
transport's detail (R243, R244). -/
inductive CommandError where
  | configuration (cause : ConfigCause)
  | validation (cause : ValidationCause)
  | deviceNotFound
  | communication (detail : Detail)
  deriving DecidableEq, Repr

/-- The one result a command ends with (R13, R240). -/
inductive Result where
  | ok
  | err (e : CommandError)
  deriving DecidableEq, Repr

/-- The events of the trace (R13): `Delay(ms)` and `Write(addr7, b0, b1, status)`. -/
inductive Event where
  | delay (ms : Nat)
  | write (addr7 : Addr7) (b0 b1 : Byte) (status : TxStatus)
  deriving DecidableEq, Repr

/-- Where a transaction stands inside phase WRITE: byte 0 precedes byte 1 (R53, R61 (c)), and the
answer comes after both. The model's own refinement of the phase (notes/assumptions/4). -/
inductive TxStage where
  /-- Payload byte 0 is the next to be handed to the transport. -/
  | coarseDue
  /-- Payload byte 1 is the next. -/
  | fineDue
  /-- Both have been handed over; the transport owes its answer. -/
  | answerDue
  deriving DecidableEq, Repr

/-- One sample of the transport's inputs `tx_done`, `tx_status[1:0]`, `tx_detail` (R69). -/
structure TxSample where
  done : Bool
  status : BitVec 2
  detail : Detail
  deriving DecidableEq, Repr

/-- The whole state. The first five fields are the spec's state (R20, R26); `txReq` and `rsp` are the
port pulses that are high for one clock (R69, R247); `stage` and `draws` are the model's own; the three
input lists stand for the host, the transport and the reset pin (R12); `trace` and `results` are the
observation (R13), which no command reads. -/
structure State where
  /-- `PHASE` (R24). -/
  phase : Phase
  /-- `CTOR` (R25). -/
  ctor : Bool
  /-- `ADDR7`: absent in phase OFF (R21, R22). -/
  addr7 : Option Addr7
  /-- `TIMER`, the settle down-counter (R32). -/
  timer : TimerWord
  /-- The transient latches (R26). -/
  latches : Latches
  /-- Which part of the transaction is next, inside phase WRITE. -/
  stage : TxStage
  /-- `tx_req` (R69). -/
  txReq : Bool
  /-- The result port: `none` is `rsp_valid` low (R247). -/
  rsp : Option Result
  /-- How many free draws the latches have had (U14). -/
  draws : Nat
  /-- The command words the host has still to present, in order (R12, R262). -/
  cmdIn : List CmdWord
  /-- The transport's samples to come; the empty list is a transport that stays silent (R219). -/
  txIn : List TxSample
  /-- The reset pin, one sample a step, true where `rst_n` is asserted; empty is deasserted (R281). -/
  rstIn : List Bool
  /-- The events, oldest first (R13). -/
  trace : List Event
  /-- The results, oldest first (R13). -/
  results : List Result
  deriving DecidableEq, Repr

/-- Why the machine stops with a fault. -/
inductive Fault where
  /-- WRITE read an absent `ADDR7` (R22, U13). Raised by a frame whose transaction has no address.
  Safe: no run reaches it (R222), and the spec calls it a fault of the model. -/
  | addr7Absent
  deriving DecidableEq, Repr

/-- Why the model gives a step no meaning (R258). Every one is safe: the run stops where the spec
states nothing, or where the sequencer has no path. -/
inductive Refusal where
  /-- No meaning written yet, by mnemonic. Raised by no arm: every instruction is modelled. Safe. -/
  | notModelled (mnemonic : String)
  /-- A command in a phase that does not accept it (R24, R258). Raised by the five commands. Safe. -/
  | notAccepted
  /-- A reserved command word (R94, R258). Raised by the fetch from the command port. Safe. -/
  | reservedCommand
  /-- MAP_VOLUME with a parameter tuple other than (0, 100, 0, 79) (R148). No command reaches it. Safe. -/
  | mapParameters
  /-- A step the sequencer never emits: 8..15 in a 10 dB op-code, 10..15 in a 1 dB op-code or as the
  ones digit of a frame (R89). Raised by wire op-codes and frames. Safe. -/
  | neverEmitted
  /-- A wire op-code that is not the payload byte due: no byte reaches the bus but through a command
  (R260). Raised by wire op-codes. Safe. -/
  | byteNotDue
  /-- A frame that is not the transaction waiting for its answer (R260). Raised by frames. Safe. -/
  | frameNotDue
  /-- Payload latches that hold no wire op-code or no frame in phase WRITE (R89). Raised by the fetch
  in phase WRITE; no run reaches it. Safe. -/
  | payloadUndefined
  /-- Reset while a transaction is in flight (R281, U15). Raised by the reset event. Safe. -/
  | resetDuringWrite
  deriving DecidableEq, Repr

/-- What a meaning answers. -/
abbrev Outcome := Host.Outcome State Fault Refusal

/-- The latches after reset: unspecified and unobservable in the spec (R26); zero here
(notes/assumptions/8, DESIGN CHOICE). -/
def resetLatches : Latches :=
  { clamped := 0, flipped := 0, prod := 0, a79 := 0, tens := 0, ones := 0, coarse := 0, fine := 0 }

/-- The machine right after reset (R280): phase OFF, `CTOR` 0, `ADDR7` without value, `TIMER` 0, port
pulses low; no input offered and nothing observed yet. -/
def State.reset : State :=
  { phase := .off, ctor := false, addr7 := none, timer := 0, latches := resetLatches,
    stage := .coarseDue, txReq := false, rsp := none, draws := 0,
    cmdIn := [], txIn := [], rstIn := [], trace := [], results := [] }

end Sys2Proof.Machine
end

