-- ==== Sys2Proof/Machine/Flags.lean ====
section
/-! DEFINITION. The block has no status flags or condition codes (spec/10_state.md R29). What it has
instead is the status it shows on its ports, all of it computed from the state: the ready line
(spec/60_exceptions.md R263), the result port (R247), the transport port (spec/20_memory.md R69) and the
code of the phase register (spec/10_state.md R24). -/

namespace Sys2Proof.Machine

/-- The two-bit code of `PHASE` (R24). -/
def phaseCode : Phase → BitVec 2
  | .off => 0b00
  | .settle => 0b01
  | .write => 0b10
  | .ready => 0b11

/-- `cmd_ready`: high exactly when `PHASE` is OFF or READY (R263). -/
def State.cmdReady (s : State) : Bool :=
  match s.phase with
  | .off => true
  | .ready => true
  | .settle => false
  | .write => false

/-- `rsp_err[2:0]` of a result (R247). -/
def rspErr : Result → BitVec 3
  | .ok => 0
  | .err (.configuration _) => 1
  | .err (.validation _) => 2
  | .err .deviceNotFound => 3
  | .err (.communication _) => 4

/-- `rsp_cause`, valid when `rsp_err` is 1 or 2: 0 is the first cause, 1 the second (R247). -/
def rspCause : Result → Option Bool
  | .err (.configuration .noTransport) => some false
  | .err (.configuration .badAddress) => some true
  | .err (.validation .volume) => some false
  | .err (.validation .channel) => some true
  | _ => none

/-- `rsp_detail`, valid when `rsp_err` is 4: the transport's detail, unchanged (R247, R244). -/
def rspDetail : Result → Option Detail
  | .err (.communication d) => some d
  | _ => none

/-- The output ports in one clock (R69, R247, R263). A `none` is a signal that is not valid. -/
structure PortOut where
  cmdReady : Bool
  txReq : Bool
  txAddr7 : Option Addr7
  txB0 : Option Byte
  txB1 : Option Byte
  rspValid : Bool
  rspErr : Option (BitVec 3)
  rspCause : Option Bool
  rspDetail : Option Detail
  deriving DecidableEq, Repr

/-- The outputs the state shows. `tx_addr7`, `tx_b0` and `tx_b1` are stable while in phase WRITE (R69);
outside it the spec gives them no value. -/
def State.portOut (s : State) : PortOut :=
  { cmdReady := s.cmdReady
    txReq := s.txReq
    txAddr7 := if s.phase = .write then s.addr7 else none
    txB0 := if s.phase = .write then some s.latches.coarse else none
    txB1 := if s.phase = .write then some s.latches.fine else none
    rspValid := s.rsp.isSome
    rspErr := s.rsp.map rspErr
    rspCause := s.rsp.bind rspCause
    rspDetail := s.rsp.bind rspDetail }

end Sys2Proof.Machine
end

