-- ==== Sys2Proof/Machine/Operands.lean ====
section
/-! DEFINITION. What the operands of a command turn into: the arithmetic shared by the volume commands
(spec/41_map_volume.md), the checks of the operands (spec/40_construct.md R122, spec/43_master_volume.md
R177, spec/44_channel_volume.md R192) and the register pairs (spec/10_state.md R23). All arithmetic is
over the unbounded integers; `/` and `%` by a positive constant are floor division and its remainder
(spec/00_scope.md R10). -/

namespace Sys2Proof.Machine

/-- `clamp(v, lo, hi)` (R10, R141). -/
def clamp (v lo hi : Int) : Int := if v < lo then lo else if hi < v then hi else v

/-- Step 2 of MAP_VOLUME: the literal 100, not `in_max` (R142, R149). -/
def flipVolume (clamped : Int) : Int := Config.flip - clamped

/-- The product of step 3, the latch `PROD` (R143, R26). -/
def mapProduct (flipped inMin outMin outMax : Int) : Int := (flipped - inMin) * (outMax - outMin)

/-- Step 3 of MAP_VOLUME: multiply, then floor-divide, then add (R143, R144). -/
def rescale (flipped inMin inMax outMin outMax : Int) : Int :=
  mapProduct flipped inMin outMin outMax / (inMax - inMin) + outMin

/-- MAP_VOLUME (R140). Only the tuple (0, 100, 0, 79) is admitted; any other is refused, not
evaluated (R148). -/
def mapVolume (value inMin inMax outMin outMax : Int) : Except Refusal Int :=
  if inMin = Config.volMin ∧ inMax = Config.volMax ∧ outMin = Config.attMin ∧ outMax = Config.attMax then
    .ok (rescale (flipVolume (clamp value inMin inMax)) inMin inMax outMin outMax)
  else .error .mapParameters

/-- SPLIT: `(tens, ones) = divmod(a79, 10)` (R146). -/
def splitDigits (a79 : Int) : Int × Int := (a79 / 10, a79 % 10)

/-- ENCODE: the two payload bytes, coarse first (R147, R83). -/
def encodePair (coarseBase fineBase : Byte) (tens ones : Int) : Byte × Byte :=
  (coarseBase ||| BitVec.ofInt 8 tens, fineBase ||| BitVec.ofInt 8 ones)

/-- A RegisterPair: the coarse and the fine base op-code of one target (R16, R23). -/
structure RegisterPair where
  coarseBase : Byte
  fineBase : Byte
  deriving DecidableEq, Repr

/-- The master pair (R23). -/
def masterPair : RegisterPair :=
  { coarseBase := Config.masterCoarseBase, fineBase := Config.masterFineBase }

/-- The pair of a channel index (R23). -/
def channelPair (ch : Fin 6) : RegisterPair :=
  { coarseBase := Config.chCoarseBase ch, fineBase := Config.chFineBase ch }

/-- The channel test, before any table lookup: a negative index does not wrap (R192). -/
def channelIndex (channel : Int) : Option (Fin 6) :=
  if h : 0 ≤ channel ∧ channel < Config.nCh then
    some ⟨channel.toNat, by have h2 : channel < 6 := h.2; omega⟩
  else none

/-- The volume test, both bounds inclusive (R177, R192). -/
def volumeInRange (volume : Int) : Bool :=
  decide (Config.volMin ≤ volume) && decide (volume ≤ Config.volMax)

/-- The latches a volume command loads on its way to a payload (R26), given the attenuation `a79`
that MAP_VOLUME returned. -/
def volumeLatches (pair : RegisterPair) (volume a79 : Int) : Latches :=
  let clamped := clamp volume Config.volMin Config.volMax
  let flipped := flipVolume clamped
  let digits := splitDigits a79
  let payload := encodePair pair.coarseBase pair.fineBase digits.1 digits.2
  { clamped := BitVec.ofInt 7 clamped
    flipped := BitVec.ofInt 7 flipped
    prod := BitVec.ofInt 13 (mapProduct flipped Config.volMin Config.attMin Config.attMax)
    a79 := BitVec.ofInt 7 a79
    tens := BitVec.ofInt 3 digits.1
    ones := BitVec.ofInt 4 digits.2
    coarse := payload.1
    fine := payload.2 }

/-- The stored form of the address: `address >> 1` (R21, R52). -/
def storedAddress (address : Int) : Addr7 := BitVec.ofInt 7 (address >>> 1)

/-- The answer a sample carries: 0 is `T_OK`, 1 is `T_NACK`, 2 is `T_FAIL`, and the reserved 3 is
treated as `T_FAIL` (R69). -/
def TxSample.answer (x : TxSample) : TxStatus :=
  if x.status = 0 then .ok else if x.status = 1 then .nack else .fail x.detail

end Sys2Proof.Machine
end

