-- ==== Sys2Proof/Machine/Ops.lean ====
section
/-! DEFINITION. The named operations over the state: ending a command with its result
(spec/60_exceptions.md R250, R251: an error saves nothing and transfers control nowhere, so ending with
an error IS what the block has for taking an exception, and there is no return from one, R252), the
phases of a transaction (spec/10_state.md R24), the primitive WRITE with its error translation
(spec/46_bus_write.md), the settle delay (spec/42_initialize.md R161, R162), the acceptance of a volume
payload, and the reset event (spec/70_reset_and_hazards.md R281). -/

namespace Sys2Proof.Machine

/-! ### Ending a command -/

/-- The command ends with `r`: the result goes to the host, on the result port for one clock (R247,
R250). Nothing else changes. -/
def State.endCommand (r : Result) (s : State) : State :=
  { s with rsp := some r, results := s.results ++ [r] }

/-- The result a transport's answer becomes (R217). The translation is the same for every command. -/
def translateAnswer : TxStatus → Result
  | .ok => .ok
  | .nack => .err .deviceNotFound
  | .fail d => .err (.communication d)

/-! ### Phase WRITE -/

/-- Entry to phase WRITE with the payload `[b0, b1]`: `tx_req` is high for this clock, the payload
stands in COARSE and FINE (R24, R26, R69). -/
def State.enterWrite (b0 b1 : Byte) (s : State) : State :=
  { s with phase := .write, stage := .coarseDue, txReq := true,
           latches := { s.latches with coarse := b0, fine := b1 } }

/-- The volume payload of a pair: MAP_VOLUME, SPLIT, ENCODE, then phase WRITE (R175, R190). -/
def volumeWrite (pair : RegisterPair) (volume : Int) (s : State) : Outcome :=
  match mapVolume volume Config.volMin Config.volMax Config.attMin Config.attMax with
  | .error r => .refused r
  | .ok a79 =>
    let l := volumeLatches pair volume a79
    .next (State.enterWrite l.coarse l.fine { s with latches := l })

/-- Payload byte 0, a 10 dB op-code, is handed to the transport (R53, R61 (c)). `base` is the
op-code's base, `step` its step: 0..7 are emitted, others never (R82, R89). -/
def handCoarse (base : Byte) (step : Nibble) (s : State) : Outcome :=
  if 7 < step then .refused .neverEmitted
  else if s.phase = .write ∧ s.stage = .coarseDue ∧ s.latches.coarse = stepByte base step then
    .next { s with stage := .fineDue }
  else .refused .byteNotDue

/-- Payload byte 1 is handed to the transport, after byte 0 (R53, R61 (c)). -/
def handFineByte (b : Byte) (s : State) : Outcome :=
  if s.phase = .write ∧ s.stage = .fineDue ∧ s.latches.fine = b then
    .next { s with stage := .answerDue }
  else .refused .byteNotDue

/-- A 1 dB op-code as payload byte 1: steps 0..9 are emitted, others never (R82, R89). -/
def handFine (base : Byte) (step : Nibble) (s : State) : Outcome :=
  if 9 < step then .refused .neverEmitted else handFineByte (stepByte base step) s

/-- Where a transaction leaves the phase register and the address (R24, R251): a failed write of a
construction leaves no controller; every other answer leaves it ready. -/
def State.settlePhase (t : TxStatus) (s : State) : State :=
  match t, s.ctor with
  | .ok, _ => { s with phase := .ready, ctor := false }
  | _, false => { s with phase := .ready }
  | _, true => { s with phase := .off, ctor := false, addr7 := none }

/-- The latches are dead between commands: `any value` (U14), a free draw. -/
def State.redrawLatches (s : State) : State :=
  { s with latches := Config.latchDraw s.draws, draws := s.draws + 1 }

/-- The transport has answered `t` to the write of `[b0, b1]` to `a`: exactly one `Write` event whatever
the status, the phase moves, the command ends with the translated result (R216, R217, R24). -/
def State.finishWrite (a : Addr7) (b0 b1 : Byte) (t : TxStatus) (s : State) : State :=
  State.endCommand (translateAnswer t)
    (State.redrawLatches
      (State.settlePhase t { s with trace := s.trace ++ [.write a b0 b1 t], stage := .coarseDue }))

/-- WRITE waits for the transport: one sample of `tx_done` is read; while it is low, or while the
transport offers nothing, the block stays in phase WRITE, without limit (R219, R292). -/
def State.awaitAnswer (a : Addr7) (b0 b1 : Byte) (s : State) : State :=
  match s.txIn with
  | [] => s
  | x :: rest =>
    if x.done then State.finishWrite a b0 b1 x.answer { s with txIn := rest }
    else { s with txIn := rest }

/-- A frame is the transaction in flight: both its bytes have been handed over, and it waits for the
answer (R216, R58). It reads `ADDR7`; an absent one is a fault of the model (R22). -/
def frameWrite (b0 b1 : Byte) (s : State) : Outcome :=
  if s.phase = .write ∧ s.stage = .answerDue ∧ s.latches.coarse = b0 ∧ s.latches.fine = b1 then
    match s.addr7 with
    | none => .fault .addr7Absent
    | some a => .next (State.awaitAnswer a b0 b1 s)
  else .refused .frameNotDue

/-- A frame of shape V: ones digits above 9 are never emitted (R86, R89). -/
def volumeFrameWrite (pair : RegisterPair) (tens : BitVec 3) (ones : Nibble) (s : State) : Outcome :=
  if 9 < ones then .refused .neverEmitted
  else frameWrite (pair.coarseBase ||| tens.setWidth 8) (stepByte pair.fineBase ones) s

/-! ### Phase SETTLE -/

/-- Entry to INIT_SEQUENCE: phase SETTLE, `TIMER` loaded (R161, R32). -/
def State.enterSettle (s : State) : State :=
  { s with phase := .settle, timer := Config.settleLoad }

/-- One clock of the settle delay: `TIMER` counts down; when it reaches 0 the delay is over, the event
`Delay(200)` is in the trace and the clear payload `[0x00, 0xC0]` goes to the transport (R24, R32, R161). -/
def State.settleTick (s : State) : State :=
  if s.timer.toNat ≤ 1 then
    State.enterWrite Config.controlCoarse Config.opClear
      { s with timer := 0, trace := s.trace ++ [.delay Config.settleMs] }
  else { s with timer := s.timer - 1 }

/-! ### Reset -/

/-- The reset event (R281): the reset state from any state, nothing sent on the bus; in phase WRITE it
has no meaning. The inputs and the observation are outside the sequencer and stay; `draws` goes on. -/
def State.resetEvent (s : State) : Outcome :=
  if s.phase = .write then .refused .resetDuringWrite
  else .next { State.reset with draws := s.draws, cmdIn := s.cmdIn, txIn := s.txIn, rstIn := s.rstIn,
                                trace := s.trace, results := s.results }

/-! ### One step -/

/-- The start of a step: the port pulses of the last one fall (R69, R247) and the sample of the reset
pin is taken. -/
def State.nextClock (s : State) : State :=
  { s with txReq := false, rsp := none, rstIn := s.rstIn.tail }

/-- `rst_n` is asserted in this step. -/
def State.resetAsserted (s : State) : Bool := s.rstIn.head?.getD false

end Sys2Proof.Machine
end

