-- ==== Sys2Proof/Machine/Construct.lean ====
section
/-! DEFINITION. The construction family: NEW (spec/40_construct.md). -/

namespace Sys2Proof.Machine

/-- NEW (R120 to R124): accepted in OFF only; transport, then address; then the address is stored,
`CTOR` set, and INIT_SEQUENCE entered (R24). -/
def execNew (address : Int) (tp : Bool) (s : State) : Outcome :=
  if s.phase = .off then
    if tp then
      if address ∈ Config.addr8Set then
        .next (State.enterSettle { s with addr7 := some (storedAddress address), ctor := true })
      else .next (State.endCommand (.err (.configuration .badAddress)) s)
    else .next (State.endCommand (.err (.configuration .noTransport)) s)
  else .refused .notAccepted

end Sys2Proof.Machine
end

