-- ==== Sys2Proof/Machine/Frame.lean ====
section
/-! DEFINITION. The frames (spec/30_encoding.md R86). A frame is the payload of a whole transaction, both
bytes already handed over: running it is the second half of WRITE, waiting for the transport's answer and
ending the command with its translation (spec/46_bus_write.md R216, R217, R219; the rows WRITE of
spec/10_state.md R24). A frame that is not the transaction in flight is refused (spec/60_exceptions.md R260). -/

namespace Sys2Proof.Machine

/-- F_CLEAR, `[0x00, 0xC0]`, emitted by NEW and INIT (R161, R164). -/
def execFClear (s : State) : Outcome := frameWrite Config.controlCoarse Config.opClear s
/-- F_MUTE_ON, `[0x00, 0xF9]`, emitted by SET_MUTE(true) (R206). -/
def execFMuteOn (s : State) : Outcome := frameWrite Config.controlCoarse Config.opMuteOn s
/-- F_MUTE_OFF, `[0x00, 0xF8]`, emitted by SET_MUTE(false) (R206). -/
def execFMuteOff (s : State) : Outcome := frameWrite Config.controlCoarse Config.opMuteOff s
/-- F_MASTER, `11010ttt 1110oooo`, emitted by SET_MASTER (R176). -/
def execFMaster (tens : BitVec 3) (ones : Nibble) (s : State) : Outcome :=
  volumeFrameWrite masterPair tens ones s
/-- F_CH1, `10000ttt 1001oooo`, emitted by SET_CHANNEL(0, v) (R191). -/
def execFCh1 (tens : BitVec 3) (ones : Nibble) (s : State) : Outcome :=
  volumeFrameWrite (channelPair 0) tens ones s
/-- F_CH2, `01000ttt 0101oooo`, emitted by SET_CHANNEL(1, v) (R191). -/
def execFCh2 (tens : BitVec 3) (ones : Nibble) (s : State) : Outcome :=
  volumeFrameWrite (channelPair 1) tens ones s
/-- F_CH3, `00000ttt 0001oooo`, emitted by SET_CHANNEL(2, v) (R191). -/
def execFCh3 (tens : BitVec 3) (ones : Nibble) (s : State) : Outcome :=
  volumeFrameWrite (channelPair 2) tens ones s
/-- F_CH4, `00100ttt 0011oooo`, emitted by SET_CHANNEL(3, v) (R191). -/
def execFCh4 (tens : BitVec 3) (ones : Nibble) (s : State) : Outcome :=
  volumeFrameWrite (channelPair 3) tens ones s
/-- F_CH5, `01100ttt 0111oooo`, emitted by SET_CHANNEL(4, v) (R191). -/
def execFCh5 (tens : BitVec 3) (ones : Nibble) (s : State) : Outcome :=
  volumeFrameWrite (channelPair 4) tens ones s
/-- F_CH6, `10100ttt 1011oooo`, emitted by SET_CHANNEL(5, v) (R191). -/
def execFCh6 (tens : BitVec 3) (ones : Nibble) (s : State) : Outcome :=
  volumeFrameWrite (channelPair 5) tens ones s

end Sys2Proof.Machine
end

