-- ==== Sys2Proof/Machine/Mute.lean ====
section
/-! DEFINITION. The mute family: SET_MUTE (spec/45_mute.md). -/

namespace Sys2Proof.Machine

/-- SET_MUTE (R205, R206): one of two fixed control frames; it sets and does not toggle (R207). -/
def execSetMute (enabled : Bool) (s : State) : Outcome :=
  if s.phase = .ready then
    .next (State.enterWrite Config.controlCoarse (if enabled then Config.opMuteOn else Config.opMuteOff) s)
  else .refused .notAccepted

end Sys2Proof.Machine
end

