-- ==== Sys2Proof/Machine/PowerUp.lean ====
section
/-! DEFINITION. The initialization family: INIT (spec/42_initialize.md). -/

namespace Sys2Proof.Machine

/-- INIT (R160): accepted in READY only; `CTOR` cleared, INIT_SEQUENCE entered (R24). -/
def execInit (s : State) : Outcome :=
  if s.phase = .ready then .next (State.enterSettle { s with ctor := false })
  else .refused .notAccepted

end Sys2Proof.Machine
end

