-- ==== Sys2Proof/Machine/Volume.lean ====
section
/-! DEFINITION. The volume families: SET_MASTER (spec/43_master_volume.md) and SET_CHANNEL
(spec/44_channel_volume.md). -/

namespace Sys2Proof.Machine

/-- SET_MASTER (R175 to R177): accepted in READY only; a volume outside 0..100 is rejected before
everything else. -/
def execSetMaster (volume : Int) (s : State) : Outcome :=
  if s.phase = .ready then
    if volumeInRange volume then volumeWrite masterPair volume s
    else .next (State.endCommand (.err (.validation .volume)) s)
  else .refused .notAccepted

/-- SET_CHANNEL (R190 to R192): the volume is tested first, the channel second, before the table. -/
def execSetChannel (channel volume : Int) (s : State) : Outcome :=
  if s.phase = .ready then
    if volumeInRange volume then
      match channelIndex channel with
      | some ch => volumeWrite (channelPair ch) volume s
      | none => .next (State.endCommand (.err (.validation .channel)) s)
    else .next (State.endCommand (.err (.validation .volume)) s)
  else .refused .notAccepted

end Sys2Proof.Machine
end

