-- ==== Sys2Proof/Machine/Wire.lean ====
section
/-! DEFINITION. The wire op-codes (spec/30_encoding.md R82). Inside the sequencer an op-code is a byte of
the payload of the transaction in flight: running it hands that byte to the transport, 10 dB op-codes as
byte 0, 1 dB op-codes and control codes as byte 1 (spec/20_memory.md R53, R61 (c); spec/30_encoding.md R86).
What the device does with it is outside the block (spec/00_scope.md R5, R12). A byte that is not the one due
is refused, so that none reaches the bus but through a command (spec/60_exceptions.md R260). -/

namespace Sys2Proof.Machine

/-- CLEAR, 0xC0: the fine byte of the clear frame (R82, R85). -/
def execClear (s : State) : Outcome := handFineByte Config.opClear s
/-- MUTE_ON, 0xF9 (R82, R84). -/
def execMuteOn (s : State) : Outcome := handFineByte Config.opMuteOn s
/-- MUTE_OFF, 0xF8 (R82, R84). -/
def execMuteOff (s : State) : Outcome := handFineByte Config.opMuteOff s
/-- MASTER_10DB, `1101ssss` (R82). -/
def execMaster10db (step : Nibble) (s : State) : Outcome := handCoarse Config.masterCoarseBase step s
/-- MASTER_1DB, `1110ssss` (R82). -/
def execMaster1db (step : Nibble) (s : State) : Outcome := handFine Config.masterFineBase step s
/-- CH1_10DB, `1000ssss` (R82). -/
def execCh1x10db (step : Nibble) (s : State) : Outcome := handCoarse (Config.chCoarseBase 0) step s
/-- CH2_10DB, `0100ssss` (R82). -/
def execCh2x10db (step : Nibble) (s : State) : Outcome := handCoarse (Config.chCoarseBase 1) step s
/-- CH3_10DB, `0000ssss` (R82). Step 0 is also the first byte of every control frame (R85). -/
def execCh3x10db (step : Nibble) (s : State) : Outcome := handCoarse (Config.chCoarseBase 2) step s
/-- CH4_10DB, `0010ssss` (R82). -/
def execCh4x10db (step : Nibble) (s : State) : Outcome := handCoarse (Config.chCoarseBase 3) step s
/-- CH5_10DB, `0110ssss` (R82). -/
def execCh5x10db (step : Nibble) (s : State) : Outcome := handCoarse (Config.chCoarseBase 4) step s
/-- CH6_10DB, `1010ssss` (R82). -/
def execCh6x10db (step : Nibble) (s : State) : Outcome := handCoarse (Config.chCoarseBase 5) step s
/-- CH1_1DB, `1001ssss` (R82). -/
def execCh1x1db (step : Nibble) (s : State) : Outcome := handFine (Config.chFineBase 0) step s
/-- CH2_1DB, `0101ssss` (R82). -/
def execCh2x1db (step : Nibble) (s : State) : Outcome := handFine (Config.chFineBase 1) step s
/-- CH3_1DB, `0001ssss` (R82). -/
def execCh3x1db (step : Nibble) (s : State) : Outcome := handFine (Config.chFineBase 2) step s
/-- CH4_1DB, `0011ssss` (R82). -/
def execCh4x1db (step : Nibble) (s : State) : Outcome := handFine (Config.chFineBase 3) step s
/-- CH5_1DB, `0111ssss` (R82). -/
def execCh5x1db (step : Nibble) (s : State) : Outcome := handFine (Config.chFineBase 4) step s
/-- CH6_1DB, `1011ssss` (R82). -/
def execCh6x1db (step : Nibble) (s : State) : Outcome := handFine (Config.chFineBase 5) step s

end Sys2Proof.Machine
end

