-- ==== Sys2Proof/Machine/Dispatch.lean ====
section
/-! DEFINITION. The dispatch: one arm per instruction, in the order of spec/opcode_table.json. -/

namespace Sys2Proof.Machine

def exec (i : Instr) (s : State) : Host.Outcome State Fault Refusal :=
  match i with
  | .new address tp => Sys2Proof.Machine.execNew address tp s
  | .init => Sys2Proof.Machine.execInit s
  | .setMaster volume => Sys2Proof.Machine.execSetMaster volume s
  | .setChannel channel volume => Sys2Proof.Machine.execSetChannel channel volume s
  | .setMute enabled => Sys2Proof.Machine.execSetMute enabled s
  | .clear => Sys2Proof.Machine.execClear s
  | .muteOn => Sys2Proof.Machine.execMuteOn s
  | .muteOff => Sys2Proof.Machine.execMuteOff s
  | .master10db step => Sys2Proof.Machine.execMaster10db step s
  | .master1db step => Sys2Proof.Machine.execMaster1db step s
  | .ch1x10db step => Sys2Proof.Machine.execCh1x10db step s
  | .ch2x10db step => Sys2Proof.Machine.execCh2x10db step s
  | .ch3x10db step => Sys2Proof.Machine.execCh3x10db step s
  | .ch4x10db step => Sys2Proof.Machine.execCh4x10db step s
  | .ch5x10db step => Sys2Proof.Machine.execCh5x10db step s
  | .ch6x10db step => Sys2Proof.Machine.execCh6x10db step s
  | .ch1x1db step => Sys2Proof.Machine.execCh1x1db step s
  | .ch2x1db step => Sys2Proof.Machine.execCh2x1db step s
  | .ch3x1db step => Sys2Proof.Machine.execCh3x1db step s
  | .ch4x1db step => Sys2Proof.Machine.execCh4x1db step s
  | .ch5x1db step => Sys2Proof.Machine.execCh5x1db step s
  | .ch6x1db step => Sys2Proof.Machine.execCh6x1db step s
  | .fClear => Sys2Proof.Machine.execFClear s
  | .fMuteOn => Sys2Proof.Machine.execFMuteOn s
  | .fMuteOff => Sys2Proof.Machine.execFMuteOff s
  | .fMaster tens ones => Sys2Proof.Machine.execFMaster tens ones s
  | .fCh1 tens ones => Sys2Proof.Machine.execFCh1 tens ones s
  | .fCh2 tens ones => Sys2Proof.Machine.execFCh2 tens ones s
  | .fCh3 tens ones => Sys2Proof.Machine.execFCh3 tens ones s
  | .fCh4 tens ones => Sys2Proof.Machine.execFCh4 tens ones s
  | .fCh5 tens ones => Sys2Proof.Machine.execFCh5 tens ones s
  | .fCh6 tens ones => Sys2Proof.Machine.execFCh6 tens ones s

end Sys2Proof.Machine
end

