-- ==== Sys2Proof/Machine/Fetch.lean ====
section
/-! DEFINITION. Where the next instruction comes from. The block has no instruction memory (spec/10_state.md
R24, spec/20_memory.md R65): `PHASE` says what runs. In OFF and READY it is the command the host presents
(spec/60_exceptions.md R263); in SETTLE the delay; in WRITE the payload in COARSE and FINE, first its two
op-codes in order, then the frame as a whole (spec/20_memory.md R53, R61). -/

namespace Sys2Proof.Machine

/-- What the next step runs. -/
inductive Fetch where
  /-- No command is presented: the block stays idle (R267). -/
  | idle
  /-- A clock of the settle delay. -/
  | settling
  /-- The instruction `i`, in the state `s` in which it has been taken. -/
  | run (i : Instr) (s : State)
  /-- Bits without a reading. -/
  | reject (r : Refusal)
  deriving DecidableEq, Repr

/-- A decoded word, or the refusal that stands for a word without a reading. -/
def fetched (d : Except DecodeError Instr) (r : Refusal) (s : State) : Fetch :=
  match d with
  | .ok i => .run i s
  | .error _ => .reject r

/-- The command port: a word is taken when one is presented and the block is ready (R263). -/
def fetchCommand (s : State) : Fetch :=
  match s.cmdIn with
  | [] => .idle
  | w :: rest => fetched (decode (.command w)) .reservedCommand { s with cmdIn := rest }

/-- Phase WRITE: payload byte 0, payload byte 1, then the transaction. -/
def fetchPayload (s : State) : Fetch :=
  match s.stage with
  | .coarseDue => fetched (decode (.wire s.latches.coarse)) .payloadUndefined s
  | .fineDue => fetched (decode (.wire s.latches.fine)) .payloadUndefined s
  | .answerDue => fetched (decode (.frame s.latches.coarse s.latches.fine)) .payloadUndefined s

/-- The fetch. -/
def fetch (s : State) : Fetch :=
  match s.phase with
  | .off => fetchCommand s
  | .ready => fetchCommand s
  | .settle => .settling
  | .write => fetchPayload s

/-! ### Placing an instruction where the next step fetches it -/

/-- No reset in the next step. -/
def State.holdReset (s : State) : State :=
  { s with rstIn := match s.rstIn with | true :: rest => false :: rest | r => r }

/-- A phase in which the command port is read: the present one if it is. -/
def State.commandPhase (s : State) : Phase :=
  if s.cmdReady then s.phase else if s.addr7.isSome then .ready else .off

/-- The payload position of an op-code byte: 10 dB op-codes stand first, 1 dB op-codes and control codes
second (R86). -/
def bytePosition (b : Byte) : TxStage :=
  match decodeWire b with
  | .ok (.master10db _) => .coarseDue
  | .ok (.ch1x10db _) => .coarseDue
  | .ok (.ch2x10db _) => .coarseDue
  | .ok (.ch3x10db _) => .coarseDue
  | .ok (.ch4x10db _) => .coarseDue
  | .ok (.ch5x10db _) => .coarseDue
  | .ok (.ch6x10db _) => .coarseDue
  | _ => .fineDue

/-- An op-code byte where phase WRITE fetches it next. -/
def State.placeByte (b : Byte) (s : State) : State :=
  match bytePosition b with
  | .coarseDue => { s with phase := .write, stage := .coarseDue, latches := { s.latches with coarse := b } }
  | _ => { s with phase := .write, stage := .fineDue, latches := { s.latches with fine := b } }

/-- A frame as the transaction in flight. A transaction has an address (R222): the stored one, and where
there is none the lowest of the four (notes/assumptions/7). -/
def State.placeFrame (b0 b1 : Byte) (s : State) : State :=
  { s with phase := .write, stage := .answerDue, addr7 := some (s.addr7.getD (storedAddress 0x80)),
           latches := { s.latches with coarse := b0, fine := b1 } }

/-- Bits placed so that the very next step fetches them in their place. -/
def State.place (e : Encoded) (s : State) : State :=
  match e with
  | .command w => { s.holdReset with phase := s.commandPhase, cmdIn := w :: s.cmdIn }
  | .wire b => s.holdReset.placeByte b
  | .frame b0 b1 => s.holdReset.placeFrame b0 b1

/-- A word of the opcode table, placed as `tableReading` reads it; a word that is none of the table's
sizes is presented at the command port. -/
def State.placeTableWord (s : State) (nbits w : Nat) : State :=
  match tableReading nbits w with
  | some e => s.place e
  | none => s.place (.command (BitVec.ofNat 16 w))

end Sys2Proof.Machine
end

