-- ==== Sys2Proof/Machine/Step.lean ====
section
/-! DEFINITION. One step of the machine, and where a test places the instruction the next step runs. -/

namespace Sys2Proof.Machine

/-- One step: the pulses of the last step fall and the reset pin is sampled; then the reset event, or what
the phase says runs (spec/10_state.md R24, spec/70_reset_and_hazards.md R281). -/
def step (s : State) : Host.Outcome State Fault Refusal :=
  if s.resetAsserted then s.nextClock.resetEvent
  else
    match fetch s.nextClock with
    | .idle => .next s.nextClock
    | .settling => .next s.nextClock.settleTick
    | .run i s' => exec i s'
    | .reject r => .refused r

/-- `s` with a word of the opcode table placed where the next step fetches it. -/
def State.withFetchWord (s : State) (nbits w : Nat) : State := s.placeTableWord nbits w

end Sys2Proof.Machine
end

