-- ==== Sys2Proof/Machine/CommandLayer.lean ====
section
/-! DEFINITION. The command layer (spec/00_scope.md R6, R14): each command as ONE atomic transition from a
controller, a command and the transport's answer to a new controller, a result and a list of events, written
from the pseudocode of R120, R160, R175, R190, R205 and R216, with the payload formulas of R176 and R191.
`exec` and `step` are the port layer, which runs the same command phase by phase (spec/10_state.md R24); that
the two agree is stated in Certificates/Slice0/Obligations.lean. -/

namespace Sys2Proof.Machine

/-- The state the command layer has (R20): `PHASE`, `CTOR`, `ADDR7`. -/
structure Controller where
  phase : Phase
  ctor : Bool
  addr7 : Option Addr7
  deriving DecidableEq, Repr

/-- The command layer's view of a state. -/
def State.controller (s : State) : Controller := { phase := s.phase, ctor := s.ctor, addr7 := s.addr7 }

/-- What one command comes to: the new controller, the one result, the events it appended (R13). -/
structure Completed where
  controller : Controller
  result : Result
  events : List Event
  deriving DecidableEq, Repr

/-- The payload of a volume command: `[coarseBase | tens, fineBase | ones]` with
`(tens, ones) = divmod(((100 - v) * 79) // 100, 10)` (R176, R191). -/
def volumePayload (coarseBase fineBase : Byte) (v : Int) : Byte × Byte :=
  (coarseBase ||| BitVec.ofInt 8 (((100 - v) * 79) / 100 / 10),
   fineBase ||| BitVec.ofInt 8 (((100 - v) * 79) / 100 % 10))

/-- A command that ends without reaching the bus: nothing changes, no event (R251 (a), (b)). -/
def rejectedWith (c : Controller) (e : CommandError) : Option Completed :=
  some { controller := c, result := .err e, events := [] }

/-- A command of a constructed controller that ends in one WRITE of `payload`, after the events `before`
(R216): it ends in READY whatever the answer (R251 (d)). Without an address there is no meaning. -/
def writtenBy (c : Controller) (before : List Event) (payload : Byte × Byte) (t : TxStatus) :
    Option Completed :=
  match c.addr7 with
  | none => none
  | some a =>
    some { controller := { phase := .ready, ctor := false, addr7 := some a }
           result := translateAnswer t
           events := before ++ [.write a payload.1 payload.2 t] }

/-- The construction past its checks (R120, R124): READY on `T_OK`, no controller otherwise. -/
def constructed (a : Addr7) (t : TxStatus) : Option Completed :=
  some { controller := if t = .ok then { phase := .ready, ctor := false, addr7 := some a }
                       else { phase := .off, ctor := false, addr7 := none }
         result := translateAnswer t
         events := [.delay 200, .write a 0x00 0xC0 t] }

/-- One command, atomically; `none` is refused (R258). Wire op-codes and frames are no commands (R91). -/
def runCommand (i : Instr) (t : TxStatus) (c : Controller) : Option Completed :=
  match i with
  | .new address tp =>
    if c.phase = .off then
      if tp = false then rejectedWith c (.configuration .noTransport)
      else if address ∈ ([0x8C, 0x88, 0x84, 0x80] : List Int) then constructed (BitVec.ofInt 7 (address / 2)) t
      else rejectedWith c (.configuration .badAddress)
    else none
  | .init => if c.phase = .ready then writtenBy c [.delay 200] (0x00, 0xC0) t else none
  | .setMaster v =>
    if c.phase = .ready then
      if v < 0 ∨ 100 < v then rejectedWith c (.validation .volume)
      else writtenBy c [] (volumePayload 0xD0 0xE0 v) t
    else none
  | .setChannel ch v =>
    if c.phase = .ready then
      if v < 0 ∨ 100 < v then rejectedWith c (.validation .volume)
      else if ch = 0 then writtenBy c [] (volumePayload 0x80 0x90 v) t
      else if ch = 1 then writtenBy c [] (volumePayload 0x40 0x50 v) t
      else if ch = 2 then writtenBy c [] (volumePayload 0x00 0x10 v) t
      else if ch = 3 then writtenBy c [] (volumePayload 0x20 0x30 v) t
      else if ch = 4 then writtenBy c [] (volumePayload 0x60 0x70 v) t
      else if ch = 5 then writtenBy c [] (volumePayload 0xA0 0xB0 v) t
      else rejectedWith c (.validation .channel)
    else none
  | .setMute enabled =>
    if c.phase = .ready then writtenBy c [] (0x00, if enabled then 0xF9 else 0xF8) t else none
  | .clear => none
  | .muteOn => none
  | .muteOff => none
  | .master10db _ => none
  | .master1db _ => none
  | .ch1x10db _ => none
  | .ch2x10db _ => none
  | .ch3x10db _ => none
  | .ch4x10db _ => none
  | .ch5x10db _ => none
  | .ch6x10db _ => none
  | .ch1x1db _ => none
  | .ch2x1db _ => none
  | .ch3x1db _ => none
  | .ch4x1db _ => none
  | .ch5x1db _ => none
  | .ch6x1db _ => none
  | .fClear => none
  | .fMuteOn => none
  | .fMuteOff => none
  | .fMaster _ _ => none
  | .fCh1 _ _ => none
  | .fCh2 _ _ => none
  | .fCh3 _ _ => none
  | .fCh4 _ _ => none
  | .fCh5 _ _ => none
  | .fCh6 _ _ => none

end Sys2Proof.Machine
end

