-- ==== Sys2Proof/Safety.lean ====
section
/-! DEFINITION. What counts as a safe run, in the terms the claims use: the closed sets of bytes and frames
(spec/30_encoding.md R86, R89), the order of a trace (spec/70_reset_and_hazards.md R285), the legal states
(spec/10_state.md R21 to R28), and when two runs look the same to a host (spec/00_scope.md R13). -/

namespace Sys2Proof.Safety

open Sys2Proof.Machine

/-! ### What the sequencer emits -/

/-- One of the 129 byte values of R89. -/
def byteEmitted (b : Byte) : Bool :=
  match decodeWire b with
  | .ok i => i.wellFormed
  | .error _ => false

/-- One of the 563 frames of R86. -/
def frameEmitted (b0 b1 : Byte) : Bool :=
  match decodeFrame b0 b1 with
  | .ok i => i.wellFormed
  | .error _ => false

/-- The clear frame `[0x00, 0xC0]` (R164). -/
def isClear (b0 b1 : Byte) : Bool := b0 == 0x00 && b1 == 0xC0

/-- The four addresses the sequencer can produce (R50). -/
def legalAddr7 : List Addr7 := [0x40, 0x42, 0x44, 0x46]

/-- `ADDR7` holds one of the four (R21). -/
def addressed (s : State) : Bool :=
  match s.addr7 with
  | some a => decide (a ∈ legalAddr7)
  | none => false

/-! ### The trace checker (R285, R89) -/

/-- Where a trace stands: before the first `T_OK`, or after it; with a settle delay just spent, or not. -/
inductive TraceState where
  | unbooted
  | unbootedDelay
  | booted
  | bootedDelay
  | violated
  deriving DecidableEq, Repr

/-- One event read by the checker. Until the first `T_OK` there are only settle delays, each followed by
one clear; after it, clears each follow a delay, and every other write is an emitted frame. Every write goes
to a legal address. -/
def traceNext : TraceState → Event → TraceState
  | .unbooted, .delay 200 => .unbootedDelay
  | .unbootedDelay, .write a b0 b1 t =>
      if a ∈ legalAddr7 ∧ isClear b0 b1 = true then (if t = .ok then .booted else .unbooted) else .violated
  | .booted, .delay 200 => .bootedDelay
  | .booted, .write a b0 b1 _ =>
      if a ∈ legalAddr7 ∧ frameEmitted b0 b1 = true ∧ isClear b0 b1 = false then .booted else .violated
  | .bootedDelay, .write a b0 b1 _ =>
      if a ∈ legalAddr7 ∧ isClear b0 b1 = true then .booted else .violated
  | _, _ => .violated

/-- The checker over a whole trace. -/
def traceState (tr : List Event) : TraceState := tr.foldl traceNext .unbooted

/-! ### Legal states -/

/-- What each phase says about the rest of the spec's state (R20 to R28, R32). -/
def phaseLegal (s : State) : Prop :=
  match s.phase with
  | .off => s.ctor = false ∧ s.addr7 = none ∧ s.timer = 0
  | .settle => addressed s = true ∧ 1 ≤ s.timer.toNat ∧ s.timer.toNat ≤ Config.settleTicks
  | .write =>
      addressed s = true ∧ s.timer = 0 ∧ frameEmitted s.latches.coarse s.latches.fine = true ∧
        (s.ctor = true → isClear s.latches.coarse s.latches.fine = true)
  | .ready => addressed s = true ∧ s.ctor = false ∧ s.timer = 0

/-- What the phase says about the trace so far. -/
def traceLegal (s : State) : Prop :=
  match s.phase with
  | .off => traceState s.trace = .unbooted ∨ traceState s.trace = .booted
  | .settle => traceState s.trace = .booted ∨ (s.ctor = true ∧ traceState s.trace = .unbooted)
  | .write =>
      if isClear s.latches.coarse s.latches.fine then
        traceState s.trace = .bootedDelay ∨ (s.ctor = true ∧ traceState s.trace = .unbootedDelay)
      else traceState s.trace = .booted
  | .ready => traceState s.trace = .booted

/-- The port pulses: `tx_req` only on entry to phase WRITE (R69), the result port only with the last
result (R247). -/
def pulsesLegal (s : State) : Prop :=
  (s.txReq = true → s.phase = .write ∧ s.stage = .coarseDue) ∧
    (∀ r, s.rsp = some r → s.results.getLast? = some r)

/-- Outside phase WRITE no transaction is under way. -/
def stageLegal (s : State) : Prop := s.phase ≠ .write → s.stage = .coarseDue

/-- The invariant of the machine. -/
def Legal (s : State) : Prop := phaseLegal s ∧ traceLegal s ∧ pulsesLegal s ∧ stageLegal s

/-- No sample of the reset pin still to come is asserted. -/
def noReset (s : State) : Prop := ∀ b ∈ s.rstIn, b = false

/-! ### Answers and results -/

/-- The statuses of the `Write` events, in order. -/
def writeAnswers (tr : List Event) : List TxStatus :=
  tr.filterMap fun
    | .write _ _ _ t => some t
    | .delay _ => none

/-- The results that come from the bus: not the operand errors. -/
def fromBus : Result → Bool
  | .ok => true
  | .err .deviceNotFound => true
  | .err (.communication _) => true
  | .err (.configuration _) => false
  | .err (.validation _) => false

/-- Every transaction's answer is the result of its command, in order (R61 (d), R217, R218). -/
def answersAreResults (s : State) : Prop :=
  s.results.filter fromBus = (writeAnswers s.trace).map translateAnswer

/-- The state a transaction's answer `t` leaves, written out: the rows WRITE of the transition table (R24,
R251). `a`, `b0`, `b1` are the address and the payload of the `Write` event, `rest` the samples still to
come. The latches are a free draw (U14). -/
def answered (s : State) (a : Addr7) (b0 b1 : Byte) (t : TxStatus) (rest : List TxSample) : State :=
  let r : Result := match t with
    | .ok => .ok
    | .nack => .err .deviceNotFound
    | .fail d => .err (.communication d)
  { s with
    phase := if s.ctor = true ∧ t ≠ .ok then .off else .ready
    ctor := false
    addr7 := if s.ctor = true ∧ t ≠ .ok then none else s.addr7
    stage := .coarseDue
    latches := Config.latchDraw s.draws
    draws := s.draws + 1
    txIn := rest
    trace := s.trace ++ [.write a b0 b1 t]
    results := s.results ++ [r]
    rsp := some r }

/-- A volume latch set holds, exactly, the integers of R141 to R147 for the volume `v` and the bases: no
value is cut by its width (R26, R150). -/
def latchesHold (l : Latches) (coarseBase fineBase : Byte) (v : Int) : Prop :=
  (l.clamped.toNat : Int) = v ∧ (l.flipped.toNat : Int) = 100 - v ∧
    (l.prod.toNat : Int) = (100 - v) * 79 ∧ (l.a79.toNat : Int) = (100 - v) * 79 / 100 ∧
    (l.tens.toNat : Int) = (100 - v) * 79 / 100 / 10 ∧ (l.ones.toNat : Int) = (100 - v) * 79 / 100 % 10 ∧
    l.coarse = coarseBase ||| BitVec.ofInt 8 ((100 - v) * 79 / 100 / 10) ∧
    l.fine = fineBase ||| BitVec.ofInt 8 ((100 - v) * 79 / 100 % 10)

/-- The state in which phase WRITE begins with the latches `l` (R24). -/
def writing (s : State) (l : Latches) : State :=
  { s with phase := .write, stage := .coarseDue, txReq := true, latches := l }

/-- The state in which a command has ended with the error `e`: the result, and nothing else (R250). -/
def rejected (s : State) (e : CommandError) : State :=
  { s with rsp := some (.err e), results := s.results ++ [.err e] }

/-- The state right after the port pulses have fallen and the reset pin has been sampled: where a step
begins (R69, R247, R281). -/
def clocked (s : State) : State := { s with txReq := false, rsp := none, rstIn := s.rstIn.tail }

/-! ### What a host can tell apart -/

/-- The two states differ at most in the transient latches, and not in the payload a transaction in
flight shows on its port (R20, R26). -/
def alikeButLatches (s t : State) : Prop :=
  t = { s with latches := t.latches, draws := t.draws } ∧
    (s.phase = .write → s.latches.coarse = t.latches.coarse ∧ s.latches.fine = t.latches.fine)

/-- Two outcomes alike in the same sense. -/
def outcomesAlike : Outcome → Outcome → Prop
  | .next s, .next t => alikeButLatches s t
  | .fault f, .fault g => f = g
  | .refused r, .refused q => r = q
  | _, _ => False

end Sys2Proof.Safety
end

