-- ==== Sys2Proof/Certificates/Slice0/Obligations.lean ====
section
/-! DEFINITION. The statements for the provers. Each docstring names the rule of spec/ it formalises. -/

open Sys2Proof Sys2Proof.Machine Sys2Proof.Safety

/-! ### Commands -/

/-- R21, R24: in OFF, NEW with a transport and one of the four addresses stores the 7-bit form and enters
SETTLE with `CTOR` 1; nothing else changes. The four stored values are the table of R21. -/
def Obligations.NewStoresTheSevenBitAddress : Prop :=
  ∀ (s : State), s.phase = .off →
    ∀ p ∈ ([(0x80, 0x40), (0x84, 0x42), (0x88, 0x44), (0x8C, 0x46)] : List (Int × Addr7)),
      exec (.new p.1 true) s =
        .next { s with addr7 := some p.2, ctor := true, phase := .settle, timer := Config.settleLoad }

/-- R122: the two configuration checks in their order, each with no effect but the result; with a transport,
exactly the addresses that are not one of the four integers are rejected. That the transport's cause is the one
reported when both checks fail is the spec's decision D11 and the model's choice (log entry 16, U17). -/
def Obligations.NewReportsConfigurationErrors : Prop :=
  ∀ (s : State) (address : Int), s.phase = .off →
    exec (.new address false) s = .next (rejected s (.configuration .noTransport)) ∧
    (exec (.new address true) s = .next (rejected s (.configuration .badAddress)) ↔
      address ∉ ([0x8C, 0x88, 0x84, 0x80] : List Int))

/-- R24 (row READY, INIT): INIT enters SETTLE with `CTOR` 0 and `TIMER` loaded; nothing else changes. -/
def Obligations.InitEntersTheSettleDelay : Prop :=
  ∀ (s : State), s.phase = .ready →
    exec .init s = .next { s with ctor := false, phase := .settle, timer := Config.settleLoad }

/-- R176: for a volume 0..100 SET_MASTER enters WRITE with the payload of the rule in COARSE and FINE; every
latch holds its exact integer; nothing else changes. That byte 0 is the part of phase WRITE that comes next is the
model's choice (log entry 4). -/
def Obligations.SetMasterSendsTheMasterPair : Prop :=
  ∀ (s : State) (v : Int), s.phase = .ready → 0 ≤ v → v ≤ 100 →
    ∃ l, exec (.setMaster v) s = .next (writing s l) ∧ latchesHold l 0xD0 0xE0 v

/-- R177: a volume outside 0..100 is rejected with ValidationError and has no other effect, and one inside,
both bounds included, is accepted: it enters phase WRITE, whose stage is the model's own field (log entry 4). -/
def Obligations.SetMasterRejectsOutOfRange : Prop :=
  ∀ (s : State) (v : Int), s.phase = .ready →
    ((v < 0 ∨ 100 < v) → exec (.setMaster v) s = .next (rejected s (.validation .volume))) ∧
    (0 ≤ v → v ≤ 100 → ∃ l, exec (.setMaster v) s = .next (writing s l))

/-- R191: for a channel 0..5 and a volume 0..100 SET_CHANNEL enters WRITE with the payload of the rule's
table; nothing else changes. That byte 0 is the part of phase WRITE that comes next is the model's choice (log
entry 4). -/
def Obligations.SetChannelSendsTheChannelPair : Prop :=
  ∀ (s : State) (v : Int), s.phase = .ready → 0 ≤ v → v ≤ 100 →
    ∀ p ∈ ([(0, 0x80, 0x90), (1, 0x40, 0x50), (2, 0x00, 0x10), (3, 0x20, 0x30), (4, 0x60, 0x70),
            (5, 0xA0, 0xB0)] : List (Int × Byte × Byte)),
      ∃ l, exec (.setChannel p.1 v) s = .next (writing s l) ∧ latchesHold l p.2.1 p.2.2 v

/-- R192: the volume is tested first, then the channel; either failure has no other effect, and operands
inside both ranges, bounds included, are accepted. That the volume's cause is the one reported when both operands
are bad is the spec's decision D11 and the model's choice (log entry 16, U17). The stage that phase WRITE begins
with is the model's own field (log entry 4). -/
def Obligations.SetChannelRejectsOutOfRange : Prop :=
  ∀ (s : State) (c v : Int), s.phase = .ready →
    ((v < 0 ∨ 100 < v) → exec (.setChannel c v) s = .next (rejected s (.validation .volume))) ∧
    (0 ≤ v → v ≤ 100 → (c < 0 ∨ 5 < c) →
      exec (.setChannel c v) s = .next (rejected s (.validation .channel))) ∧
    (0 ≤ v → v ≤ 100 → 0 ≤ c → c ≤ 5 → ∃ l, exec (.setChannel c v) s = .next (writing s l))

/-- R205, R206: SET_MUTE enters WRITE with `[0x00, 0xF9]` or `[0x00, 0xF8]`, `tx_req` high (R69); nothing else
changes. That the six other latches keep their values (log entry 9) and that byte 0 is the part of phase WRITE
that comes next (log entry 4) are the model's choices. -/
def Obligations.SetMuteSendsOneOfTwoFrames : Prop :=
  ∀ (s : State), s.phase = .ready →
    exec (.setMute true) s = .next (writing s { s.latches with coarse := 0x00, fine := 0xF9 }) ∧
    exec (.setMute false) s = .next (writing s { s.latches with coarse := 0x00, fine := 0xF8 })

/-- R258, R24: a command in a phase that does not accept it has no meaning. -/
def Obligations.CommandsAreRefusedInOtherPhases : Prop :=
  ∀ (s : State) (address channel volume : Int) (tp enabled : Bool),
    (s.phase ≠ .off → exec (.new address tp) s = .refused .notAccepted) ∧
    (s.phase ≠ .ready →
      exec .init s = .refused .notAccepted ∧
      exec (.setMaster volume) s = .refused .notAccepted ∧
      exec (.setChannel channel volume) s = .refused .notAccepted ∧
      exec (.setMute enabled) s = .refused .notAccepted)

/-! ### The volume arithmetic -/

/-- R140, R141: MAP_VOLUME with the admitted parameters, over every integer. -/
def Obligations.MapVolumeClampsFlipsRescales : Prop :=
  ∀ v : Int,
    (0 ≤ v → v ≤ 100 → mapVolume v 0 100 0 79 = .ok (((100 - v) * 79) / 100)) ∧
    (v < 0 → mapVolume v 0 100 0 79 = .ok 79) ∧
    (100 < v → mapVolume v 0 100 0 79 = .ok 0)

/-- R148: one tuple is admitted and every other is refused. -/
def Obligations.MapVolumeAdmitsOneTuple : Prop :=
  ∀ v a b c d : Int,
    mapVolume v a b c d = .error .mapParameters ↔ (a, b, c, d) ≠ ((0, 100, 0, 79) : Int × Int × Int × Int)

/-- R145: range, direction, ties, onto, and the closed form. The spec marks these as its own inference, "derived:
from rules R141, R142 and R143". -/
def Obligations.AttenuationProperties : Prop :=
  (∀ v : Int, ∃ a, mapVolume v 0 100 0 79 = .ok a ∧ 0 ≤ a ∧ a ≤ 79) ∧
  (∀ v w a b : Int, v ≤ w → mapVolume v 0 100 0 79 = .ok a → mapVolume w 0 100 0 79 = .ok b → b ≤ a) ∧
  (∀ v : Int, 1 ≤ v → v ≤ 100 →
    (mapVolume v 0 100 0 79 = mapVolume (v - 1) 0 100 0 79 ↔
      v ∈ ([5, 10, 15, 20, 24, 29, 34, 39, 43, 48, 53, 58, 62, 67, 72, 77, 81, 86, 91, 96, 100] : List Int))) ∧
  (∀ a : Int, 0 ≤ a → a ≤ 79 → ∃ v, 0 ≤ v ∧ v ≤ 100 ∧ mapVolume v 0 100 0 79 = .ok a) ∧
  (∀ v : Int, 0 ≤ v → v ≤ 100 → mapVolume v 0 100 0 79 = .ok (79 - (79 * v + 99) / 100)) ∧
  (∀ v : Int, (v < 0 → mapVolume v 0 100 0 79 = .ok 79) ∧ (100 < v → mapVolume v 0 100 0 79 = .ok 0))

/-- R146: SPLIT breaks an attenuation into its decimal digits. -/
def Obligations.SplitGivesDecimalDigits : Prop :=
  ∀ a : Int, 0 ≤ a → a ≤ 79 →
    splitDigits a = (a / 10, a % 10) ∧
    a = 10 * (splitDigits a).1 + (splitDigits a).2 ∧
    0 ≤ (splitDigits a).1 ∧ (splitDigits a).1 ≤ 7 ∧ 0 ≤ (splitDigits a).2 ∧ (splitDigits a).2 ≤ 9

/-- R23: the constant tables and their zero low nibbles; and two relations that R23 marks as derived from the values,
so that they are no rule of their own: each channel's fine base is its coarse base OR 0x10, and the master fine
base is the master coarse base plus 0x10. -/
def Obligations.ConstantTablesHoldTheirValues : Prop :=
  Config.opClear = 0xC0 ∧ Config.opMuteOn = 0xF9 ∧ Config.opMuteOff = 0xF8 ∧
  Config.masterCoarseBase = 0xD0 ∧ Config.masterFineBase = 0xE0 ∧
  (List.ofFn Config.chCoarseBase = [0x80, 0x40, 0x00, 0x20, 0x60, 0xA0]) ∧
  (List.ofFn Config.chFineBase = [0x90, 0x50, 0x10, 0x30, 0x70, 0xB0]) ∧
  Config.addr8Set = [0x8C, 0x88, 0x84, 0x80] ∧
  (∀ b ∈ Config.masterCoarseBase :: Config.masterFineBase ::
      (List.ofFn Config.chCoarseBase ++ List.ofFn Config.chFineBase), b &&& 0x0F = 0) ∧
  (∀ i : Fin 6, Config.chFineBase i = Config.chCoarseBase i ||| 0x10) ∧
  Config.masterFineBase = Config.masterCoarseBase + 0x10

/-! ### Wire op-codes -/

/-- R82, R61 (c): each 10 dB op-code, with a step 0..7, is handed over as payload byte 0 when it is the byte
due; nothing else changes. That handing a byte over is a step of its own is the model's choice (log entry 4). -/
def Obligations.TenDecibelOpcodesAreByteZero : Prop :=
  ∀ (s : State) (k : Nibble), s.phase = .write → s.stage = .coarseDue → k ≤ 7 →
    (s.latches.coarse = 0xD0 ||| k.setWidth 8 → exec (.master10db k) s = .next { s with stage := .fineDue }) ∧
    (s.latches.coarse = 0x80 ||| k.setWidth 8 → exec (.ch1x10db k) s = .next { s with stage := .fineDue }) ∧
    (s.latches.coarse = 0x40 ||| k.setWidth 8 → exec (.ch2x10db k) s = .next { s with stage := .fineDue }) ∧
    (s.latches.coarse = 0x00 ||| k.setWidth 8 → exec (.ch3x10db k) s = .next { s with stage := .fineDue }) ∧
    (s.latches.coarse = 0x20 ||| k.setWidth 8 → exec (.ch4x10db k) s = .next { s with stage := .fineDue }) ∧
    (s.latches.coarse = 0x60 ||| k.setWidth 8 → exec (.ch5x10db k) s = .next { s with stage := .fineDue }) ∧
    (s.latches.coarse = 0xA0 ||| k.setWidth 8 → exec (.ch6x10db k) s = .next { s with stage := .fineDue })

/-- R82, R61 (c): each 1 dB op-code, with a step 0..9, is handed over as payload byte 1 (log entry 4). -/
def Obligations.OneDecibelOpcodesAreByteOne : Prop :=
  ∀ (s : State) (k : Nibble), s.phase = .write → s.stage = .fineDue → k ≤ 9 →
    (s.latches.fine = 0xE0 ||| k.setWidth 8 → exec (.master1db k) s = .next { s with stage := .answerDue }) ∧
    (s.latches.fine = 0x90 ||| k.setWidth 8 → exec (.ch1x1db k) s = .next { s with stage := .answerDue }) ∧
    (s.latches.fine = 0x50 ||| k.setWidth 8 → exec (.ch2x1db k) s = .next { s with stage := .answerDue }) ∧
    (s.latches.fine = 0x10 ||| k.setWidth 8 → exec (.ch3x1db k) s = .next { s with stage := .answerDue }) ∧
    (s.latches.fine = 0x30 ||| k.setWidth 8 → exec (.ch4x1db k) s = .next { s with stage := .answerDue }) ∧
    (s.latches.fine = 0x70 ||| k.setWidth 8 → exec (.ch5x1db k) s = .next { s with stage := .answerDue }) ∧
    (s.latches.fine = 0xB0 ||| k.setWidth 8 → exec (.ch6x1db k) s = .next { s with stage := .answerDue })

/-- R82, R86: each control code is handed over as payload byte 1 (log entry 4). -/
def Obligations.ControlCodesAreByteOne : Prop :=
  ∀ (s : State), s.phase = .write → s.stage = .fineDue →
    (s.latches.fine = 0xC0 → exec .clear s = .next { s with stage := .answerDue }) ∧
    (s.latches.fine = 0xF9 → exec .muteOn s = .next { s with stage := .answerDue }) ∧
    (s.latches.fine = 0xF8 → exec .muteOff s = .next { s with stage := .answerDue })

/-- R260: a wire op-code reaches the transport only as the byte due of the payload in flight: byte 0 first,
then byte 1. The hand-over as a step of its own is the model's choice (log entry 4). -/
def Obligations.OnlyTheByteDueIsHandedOver : Prop :=
  ∀ (i : Instr) (s s' : State), i.kind = .wireByte → exec i s = .next s' →
    s.phase = .write ∧
    ((s.stage = .coarseDue ∧ encode i = .wire s.latches.coarse ∧ s' = { s with stage := .fineDue }) ∨
     (s.stage = .fineDue ∧ encode i = .wire s.latches.fine ∧ s' = { s with stage := .answerDue }))

/-- R89: a wire op-code or frame with a step the sequencer never emits is refused in every state. That such bits
are an instruction at all, and one that is refused, is the model's choice (log entry 19). -/
def Obligations.NeverEmittedStepsAreRefused : Prop :=
  ∀ (i : Instr) (s : State), i.kind ≠ .command → i.wellFormed = false → exec i s = .refused .neverEmitted

/-! ### Frames -/

/-- R24 (rows WRITE), R216, R217: the answered transaction of each frame: one `Write` event, the translated
result, the phase, `CTOR` and `ADDR7` of the table. That the latches are a free draw afterwards is the
model's form of U14 (log entry 9). So are the frame as a step of its own that reads one
sample (log entries 4, 5) and the list of samples (log entry 2). -/
def Obligations.AnsweredFramesEndTheCommand : Prop :=
  ∀ (s : State) (a : Addr7) (x : TxSample) (rest : List TxSample),
    s.phase = .write → s.stage = .answerDue → s.addr7 = some a → s.txIn = x :: rest → x.done = true →
    let after := fun b0 b1 => answered s a b0 b1 x.answer rest
    (s.latches.coarse = 0x00 →
      (s.latches.fine = 0xC0 → exec .fClear s = .next (after 0x00 0xC0)) ∧
      (s.latches.fine = 0xF9 → exec .fMuteOn s = .next (after 0x00 0xF9)) ∧
      (s.latches.fine = 0xF8 → exec .fMuteOff s = .next (after 0x00 0xF8))) ∧
    ∀ (t : BitVec 3) (o : Nibble), o ≤ 9 →
      let tens : Byte := t.setWidth 8
      let ones : Byte := o.setWidth 8
      (s.latches.coarse = 0xD0 ||| tens → s.latches.fine = 0xE0 ||| ones →
        exec (.fMaster t o) s = .next (after (0xD0 ||| tens) (0xE0 ||| ones))) ∧
      (s.latches.coarse = 0x80 ||| tens → s.latches.fine = 0x90 ||| ones →
        exec (.fCh1 t o) s = .next (after (0x80 ||| tens) (0x90 ||| ones))) ∧
      (s.latches.coarse = 0x40 ||| tens → s.latches.fine = 0x50 ||| ones →
        exec (.fCh2 t o) s = .next (after (0x40 ||| tens) (0x50 ||| ones))) ∧
      (s.latches.coarse = 0x00 ||| tens → s.latches.fine = 0x10 ||| ones →
        exec (.fCh3 t o) s = .next (after (0x00 ||| tens) (0x10 ||| ones))) ∧
      (s.latches.coarse = 0x20 ||| tens → s.latches.fine = 0x30 ||| ones →
        exec (.fCh4 t o) s = .next (after (0x20 ||| tens) (0x30 ||| ones))) ∧
      (s.latches.coarse = 0x60 ||| tens → s.latches.fine = 0x70 ||| ones →
        exec (.fCh5 t o) s = .next (after (0x60 ||| tens) (0x70 ||| ones))) ∧
      (s.latches.coarse = 0xA0 ||| tens → s.latches.fine = 0xB0 ||| ones →
        exec (.fCh6 t o) s = .next (after (0xA0 ||| tens) (0xB0 ||| ones)))

/-- R219: while the transport has no answer the block waits in phase WRITE and nothing but the sample read
goes. The list of samples is the model's choice (log entry 2), the frame as a step too (log entries 4, 5). -/
def Obligations.UnansweredFramesWait : Prop :=
  ∀ (i : Instr) (s : State) (a : Addr7),
    s.phase = .write → s.stage = .answerDue → s.addr7 = some a → i.wellFormed = true →
    encode i = .frame s.latches.coarse s.latches.fine →
    (s.txIn = [] → exec i s = .next s) ∧
    (∀ x rest, s.txIn = x :: rest → x.done = false → exec i s = .next { s with txIn := rest })

/-- R22, R260: a frame that is not the transaction waiting is refused; one whose transaction has no address is
a fault of the model (log entries 5, 22). -/
def Obligations.FramesStopWithoutATransaction : Prop :=
  ∀ (i : Instr) (s : State) (b0 b1 : Byte), i.wellFormed = true → encode i = .frame b0 b1 →
    (¬ (s.phase = .write ∧ s.stage = .answerDue ∧ s.latches.coarse = b0 ∧ s.latches.fine = b1) →
      exec i s = .refused .frameNotDue) ∧
    (s.phase = .write → s.stage = .answerDue → s.latches.coarse = b0 → s.latches.fine = b1 →
      s.addr7 = none → exec i s = .fault .addr7Absent)

/-- R217, R69: the answer of a sample, status 3 counting as a failure, and the result it becomes. -/
def Obligations.TransportAnswersAreTranslated : Prop :=
  (∀ d : Detail,
    translateAnswer .ok = .ok ∧ translateAnswer .nack = .err .deviceNotFound ∧
    translateAnswer (.fail d) = .err (.communication d)) ∧
  (∀ x : TxSample,
    (x.status = 0 → x.answer = .ok) ∧ (x.status = 1 → x.answer = .nack) ∧
    (x.status = 2 → x.answer = .fail x.detail) ∧ (x.status = 3 → x.answer = .fail x.detail))

/-- R292, R219: a transport that never answers hangs the block. From every state in phase WRITE with an address and an
emitted payload, which every legal state in that phase has, wherever the transaction stands, with no answer among
the samples to come and no reset, every number of steps leaves phase WRITE, `cmd_ready` low, the address, the events, the results and the commands presented as they were. That the
samples and resets to come are lists, and that an exhausted one is silence, is the model's choice (log entry 2). -/
def Obligations.ASilentTransportHangs : Prop :=
  ∀ (k : Nat) (s : State) (a : Addr7), s.phase = .write → s.addr7 = some a →
    frameEmitted s.latches.coarse s.latches.fine = true → (∀ x ∈ s.txIn, x.done = false) → noReset s →
    ∃ s', Host.Core.run core k s = .next s' ∧ s'.phase = .write ∧ s'.addr7 = some a ∧
      s'.trace = s.trace ∧ s'.results = s.results ∧ s'.cmdIn = s.cmdIn ∧ s'.cmdReady = false

/-! ### The settle delay -/

/-- R305, R32, R161: from SETTLE with `TIMER` at n the block stays in SETTLE, silent, for n - 1 steps, and the
n-th step enters WRITE with `Delay(200)` in the trace and `[0x00, 0xC0]` as the payload. One step a clock is
the model's reading (log entry 11); that the stage is then `coarseDue` (log entry 4), that the six other latches
keep their values (log entry 9) and that each step reads one sample of the reset pin (log entries 2, 18) are its
choices. -/
def Obligations.SettleLastsTimerSteps : Prop :=
  ∀ s : State, s.phase = .settle → 1 ≤ s.timer.toNat → noReset s →
    (∀ k, k < s.timer.toNat → ∃ s', Host.Core.run core k s = .next s' ∧ s'.phase = .settle ∧ s'.trace = s.trace ∧
      s'.results = s.results) ∧
    Host.Core.run core s.timer.toNat s =
      .next { s with phase := .write, stage := .coarseDue, timer := 0, txReq := true, rsp := none,
                     rstIn := s.rstIn.drop s.timer.toNat,
                     latches := { s.latches with coarse := 0x00, fine := 0xC0 },
                     trace := s.trace ++ [.delay 200] }

/-- R261, R8: `SETTLE_TICKS` is 0.2 times `F_CLK` rounded up, so the wait is never shorter than 200 ms. R20, R32:
the timer's width is the least that holds `SETTLE_TICKS`, and entry to SETTLE loads that number.
That `F_CLK` is a positive whole number is the model's choice (log entry 10). -/
def Obligations.SettleTicksRoundUp : Prop :=
  (Config.fClk : Nat) * 200 ≤ Config.settleTicks * 1000 ∧
  Config.settleTicks * 1000 < (Config.fClk : Nat) * 200 + 1000 ∧ 1 ≤ Config.settleTicks ∧
  Config.settleLoad.toNat = Config.settleTicks ∧
  Config.settleTicks < 2 ^ Config.timerW ∧ ∀ n, Config.settleTicks < 2 ^ n → Config.timerW ≤ n

/-! ### Reset -/

/-- R280: the reset state, and the values its ports show. -/
def Obligations.ResetStateHasTheStatedValues : Prop :=
  State.reset.phase = .off ∧ phaseCode State.reset.phase = 0b00 ∧ State.reset.ctor = false ∧
  State.reset.addr7 = none ∧ State.reset.timer = 0 ∧ State.reset.portOut.txReq = false ∧
  State.reset.portOut.rspValid = false ∧ State.reset.portOut.cmdReady = true

/-- R281: reset puts the block in the reset state from every phase but WRITE, sends nothing, and in phase
WRITE has no meaning; nothing else leads from READY to OFF. The inputs and the observation are not the
block's (log entry 14). That the latches are zero after it (log entry 8; R280 leaves them
unspecified), that the stage is its reset value (log entry 21), and that reset goes before a command in its step
(log entry 18) are the model's choices too. -/
def Obligations.ResetIsTheWayBackToOff : Prop :=
  (∀ s s' : State, step s = .next s' → s.phase = .ready → s'.phase = .off → s.resetAsserted = true) ∧
  ∀ (s : State) (rest : List Bool), s.rstIn = true :: rest →
    (s.phase ≠ .write →
      step s = .next { State.reset with draws := s.draws, cmdIn := s.cmdIn, txIn := s.txIn, rstIn := rest,
                                        trace := s.trace, results := s.results }) ∧
    (s.phase = .write → step s = .refused .resetDuringWrite)

/-! ### Steps -/

/-- A step runs the instruction its phase says is next, in the state in which the port pulses have fallen:
the command presented, which is taken; payload byte 0; payload byte 1; the frame. The parts of phase WRITE and
the state after the pulses are the model's choices (log entries 4, 13). -/
def Obligations.StepRunsTheDecodedInstruction : Prop :=
  ∀ (s : State) (i : Instr), s.resetAsserted = false →
    (∀ w rest, (s.phase = .off ∨ s.phase = .ready) → s.cmdIn = w :: rest → decodeCommand w = .ok i →
      step s = exec i { clocked s with cmdIn := rest }) ∧
    (s.phase = .write → s.stage = .coarseDue → decodeWire s.latches.coarse = .ok i →
      step s = exec i (clocked s)) ∧
    (s.phase = .write → s.stage = .fineDue → decodeWire s.latches.fine = .ok i →
      step s = exec i (clocked s)) ∧
    (s.phase = .write → s.stage = .answerDue →
      decodeFrame s.latches.coarse s.latches.fine = .ok i → step s = exec i (clocked s))

/-- R267, R263: with no command presented the block is idle in OFF and READY. That an empty input list is a
host that presents nothing is the model's choice (log entry 2). -/
def Obligations.TheBlockIdlesWithoutACommand : Prop :=
  ∀ s : State, s.resetAsserted = false → (s.phase = .off ∨ s.phase = .ready) → s.cmdIn = [] →
    step s = .next (clocked s)

/-- R263: `cmd_ready` is high exactly in OFF and READY, and a busy block takes no command. -/
def Obligations.ABusyBlockTakesNoCommand : Prop :=
  (∀ s : State, s.cmdReady = true ↔ s.phase = .off ∨ s.phase = .ready) ∧
  (∀ s s' : State, step s = .next s' → s.cmdReady = false → s'.cmdIn = s.cmdIn)

/-- R24, R28: the moves of the phase register. READY leaves for OFF by reset alone, and a command of a
constructed controller never does. -/
def Obligations.PhaseMovesAlongTheTable : Prop :=
  ∀ s s' : State, step s = .next s' → s.resetAsserted = false →
    (s.phase = .off → s'.phase = .off ∨ s'.phase = .settle) ∧
    (s.phase = .settle → s'.phase = .settle ∨ s'.phase = .write) ∧
    (s.phase = .ready → s'.phase = .ready ∨ s'.phase = .settle ∨ s'.phase = .write) ∧
    (s.phase = .write → s'.phase = .write ∨ s'.phase = .ready ∨ (s'.phase = .off ∧ s.ctor = true))

/-- R21: a stored address is immutable: no step that starts and ends with a controller changes it. -/
def Obligations.AddressIsImmutableAfterConstruction : Prop :=
  ∀ s s' : State, step s = .next s' → s.phase ≠ .off → s'.phase ≠ .off → s'.addr7 = s.addr7

/-- R56, R61, R162: a step appends at most one event; a `Delay(200)` ends the settle delay, a `Write` is
the payload in flight, sent to the stored address, as the transaction ends. The stages of phase WRITE are the
model's choice (log entry 4). -/
def Obligations.AStepAppendsAtMostOneEvent : Prop :=
  ∀ s s' : State, step s = .next s' →
    s'.trace = s.trace ∨
    (s.phase = .settle ∧ s'.phase = .write ∧ s'.trace = s.trace ++ [.delay 200]) ∨
    (∃ a t, s.phase = .write ∧ s'.phase ≠ .write ∧ s.addr7 = some a ∧
      s'.trace = s.trace ++ [.write a s.latches.coarse s.latches.fine t])

/-- R69: the transport port is stable while the block stays in phase WRITE. -/
def Obligations.TransportPortIsStable : Prop :=
  ∀ s s' : State, step s = .next s' → s.phase = .write → s'.phase = .write →
    s'.portOut.txAddr7 = s.portOut.txAddr7 ∧ s'.portOut.txB0 = s.portOut.txB0 ∧
    s'.portOut.txB1 = s.portOut.txB1 ∧ s'.portOut.txReq = false

/-- R247: the codes of the result port. -/
def Obligations.ResultPortCodes : Prop :=
  (∀ r, (rspErr r = 0 ↔ r = .ok) ∧ (rspErr r = 1 ↔ ∃ c, r = .err (.configuration c)) ∧
    (rspErr r = 2 ↔ ∃ c, r = .err (.validation c)) ∧ (rspErr r = 3 ↔ r = .err .deviceNotFound) ∧
    (rspErr r = 4 ↔ ∃ d, r = .err (.communication d)) ∧ rspErr r ≤ 4) ∧
  rspCause (.err (.configuration .noTransport)) = some false ∧
  rspCause (.err (.configuration .badAddress)) = some true ∧
  rspCause (.err (.validation .volume)) = some false ∧
  rspCause (.err (.validation .channel)) = some true ∧
  (∀ d, rspDetail (.err (.communication d)) = some d)

/-! ### Encodings -/

/-- Decoding the encoding of a well-formed instruction gives it back, for every instruction of the table. -/
def Obligations.DecodeInvertsEncode : Prop :=
  ∀ i : Instr, i.wellFormed = true → decode (encode i) = .ok i

/-- Bits that decode are the encoding of what they decode to: no two words mean one instruction. -/
def Obligations.EncodeInvertsDecode : Prop :=
  ∀ (e : Encoded) (i : Instr), decode e = .ok i → encode i = e

/-- R94: the reserved command words: `OP` 5, 6, 7, or a nonzero bit that must be zero; one that is presented
is refused, with no next state and so no result and no traffic. -/
def Obligations.ReservedCommandWordsHaveNoReading : Prop :=
  (∀ (s : State) (w : CmdWord) (rest : List CmdWord) (e : DecodeError), s.resetAsserted = false →
    (s.phase = .off ∨ s.phase = .ready) → s.cmdIn = w :: rest → decodeCommand w = .error e →
    step s = .refused .reservedCommand) ∧
  ∀ w : CmdWord,
    (∃ e, decodeCommand w = .error e) ↔
      (5 ≤ w.toNat / 8192 ∨
       (w.toNat / 8192 = 0 ∧ w.toNat / 512 % 16 ≠ 0) ∨
       (w.toNat / 8192 = 1 ∧ w.toNat % 8192 ≠ 0) ∨
       (w.toNat / 8192 = 2 ∧ w.toNat / 256 % 32 ≠ 0) ∨
       (w.toNat / 8192 = 3 ∧ w.toNat / 4096 % 2 ≠ 0) ∨
       (w.toNat / 8192 = 4 ∧ w.toNat % 8192 / 2 ≠ 0))

/-- R89: the sequencer emits 129 byte values. -/
def Obligations.OneHundredTwentyNineBytesAreEmitted : Prop :=
  ((List.range 256).filter fun n => byteEmitted (BitVec.ofNat 8 n)).length = 129

/-- Words written out from the spec's encodings decode to what they stand for (R82, R86, R92, V-VALID). -/
def Obligations.SampleWordsDecode : Prop :=
  decodeCommand 0b0000000110001000 = .ok (.new 0x88 true) ∧
  decodeCommand 0b0010000000000000 = .ok .init ∧
  decodeCommand 0b0100000001100100 = .ok (.setMaster 100) ∧
  decodeCommand 0b0110111100110010 = .ok (.setChannel (-1) 50) ∧
  decodeCommand 0b1000000000000001 = .ok (.setMute true) ∧
  decodeWire 0b11000000 = .ok .clear ∧ decodeWire 0b11010111 = .ok (.master10db 7) ∧
  decodeWire 0b10110101 = .ok (.ch6x1db 5) ∧
  decodeFrame 0b00000000 0b11111001 = .ok .fMuteOn ∧
  decodeFrame 0b11010100 0b11101001 = .ok (.fMaster 4 9)

/-! ### Invariants -/

/-- The reset state is legal, and its trace and results agree. The values of the model's own fields are its
choice (log entry 21). -/
def Obligations.ResetIsLegal : Prop := Legal State.reset ∧ answersAreResults State.reset

/-- R20 to R28, R50, R69, R89, R247, R285: every step keeps the state legal. What `Legal` says of
the stage is about the model's own field (log entry 4). -/
def Obligations.StepKeepsLegal : Prop :=
  ∀ s s' : State, Legal s → step s = .next s' → Legal s'

/-- R285, R89, R123: in every run from a legal state the trace holds only frames the sequencer may emit, each sent to
a legal address, in the boot order; and for EVERY instance, not the first alone: from a legal state in OFF, which
is where an instance begins, a run appends events that the checker accepts from its start, whatever stood in the
trace before. The state right after a reset is such a state (log entry 14). -/
def Obligations.NoRunViolatesTheTraceOrder : Prop :=
  (∀ (k : Nat) (s s' : State), Legal s → Host.Core.run core k s = .next s' →
    traceState s'.trace ≠ .violated) ∧
  ∀ (k : Nat) (s s' : State), Legal s → s.phase = .off → Host.Core.run core k s = .next s' →
    ∃ ev, s'.trace = s.trace ++ ev ∧ traceState ev ≠ .violated

/-- R217, R218, R61 (d): every step keeps the bus results equal to the translated answers, in order. -/
def Obligations.StepKeepsAnswersAsResults : Prop :=
  ∀ s s' : State, answersAreResults s → step s = .next s' → answersAreResults s'

/-- R20, R26: the transient latches carry nothing from one command to the next: two states alike but for them
take steps that are alike. The free draw of dead latches is the model's form of U14 (log entry 9). -/
def Obligations.LatchesCarryNothing : Prop :=
  ∀ s t : State, alikeButLatches s t → outcomesAlike (step s) (step t)

/-- In no legal state does a step read an absent address, find an undefined payload, or meet a byte or frame
that is not due: such stops are unreachable (R222, R221). The names of the stops are the model's (log
entries 4, 18, 22). -/
def Obligations.LegalStatesStopOnlyForTheHost : Prop :=
  ∀ s : State, Legal s →
    (∀ f, step s ≠ .fault f) ∧
    (∀ r, step s = .refused r → r = .notAccepted ∨ r = .reservedCommand ∨ r = .resetDuringWrite)

/-! ### The two layers -/

/-- R245: which command can end with which result, at the command layer: no other combination occurs, and each
that the table allows does. -/
def Obligations.EachCommandHasItsResults : Prop :=
  (∀ i t c out, runCommand i t c = some out →
    match out.result with
    | .ok => t = .ok
    | .err (.configuration _) => ∃ address tp, i = .new address tp
    | .err (.validation _) => (∃ v, i = .setMaster v) ∨ (∃ ch v, i = .setChannel ch v)
    | .err .deviceNotFound => t = .nack
    | .err (.communication d) => t = .fail d) ∧
  (∃ c out x, runCommand (.new 0x8C false) .ok c = some out ∧ out.result = .err (.configuration x)) ∧
  (∃ c out x, runCommand (.setMaster 101) .ok c = some out ∧ out.result = .err (.validation x)) ∧
  (∃ c out x, runCommand (.setChannel 6 0) .ok c = some out ∧ out.result = .err (.validation x)) ∧
  ∀ i ∈ ([.new 0x8C true, .init, .setMaster 0, .setChannel 5 100, .setMute true] : List Instr), ∀ t : TxStatus,
    ∃ c out, runCommand i t c = some out ∧ out.result = translateAnswer t

/-- R14, R28 (g): the port layer refines the command layer. From the acceptance of a command, with the answer
`x` the next sample and no reset, at most `SETTLE_TICKS + 3` steps bring the block to the controller, the one
result and the events that the command layer gives that command and answer. The number of steps and the lists of
inputs rest on the model's choices (log entries 1, 2, 4, 11). -/
def Obligations.PortLayerRefinesCommandLayer : Prop :=
  ∀ (i : Instr) (s : State) (x : TxSample) (rest : List TxSample) (out : Completed),
    s.ctor = false → noReset s → s.txIn = x :: rest → x.done = true →
    runCommand i x.answer s.controller = some out →
    ∃ s1 k s2, exec i s = .next s1 ∧ k ≤ Config.settleTicks + 3 ∧ Host.Core.run core k s1 = .next s2 ∧
      s2.controller = out.controller ∧ s2.results = s.results ++ [out.result] ∧
      s2.trace = s.trace ++ out.events ∧ s2.cmdIn = s.cmdIn
end

