-- ==== Sys2Proof/Laws/Bits.lean ====
section
/-! SUPPORT. How a command word and a payload byte split into the fields of their rows
(spec/30_encoding.md R92, R93, R81, R86). -/

namespace Sys2Proof

/-- A word is its bits under a mask and its bits beside it. -/
theorem word_mask_split (w m : CmdWord) : w = (w &&& m) ||| (w &&& ~~~m) := by
  ext i hi
  simp only [BitVec.getElem_or, BitVec.getElem_and, BitVec.getElem_not]
  cases w[i] <;> cases m[i] <;> rfl

/-- Bits 7..0 of a word. -/
theorem word_low_byte (w : CmdWord) : w &&& (0x00FF : CmdWord) = (w.extractLsb' 0 8).setWidth 16 := by
  apply BitVec.eq_of_toNat_eq
  simp only [BitVec.toNat_and, BitVec.toNat_setWidth, BitVec.extractLsb'_toNat]
  have := Nat.and_two_pow_sub_one_eq_mod w.toNat 8
  simp at this ⊢
  omega

/-- Bits 11..8 of a word, in their place. -/
theorem word_channel_bits (w : CmdWord) :
    w &&& (0x0F00 : CmdWord) = BitVec.shiftLeft ((w.extractLsb' 8 4).setWidth 16) 8 := by
  show _ = (w.extractLsb' 8 4).setWidth 16 <<< (8 : Nat)
  ext i hi
  interval_cases i <;> simp [BitVec.getElem_shiftLeft, BitVec.getElem_and]

/-- Bit 8 of a word. -/
theorem word_bit8 (w : CmdWord) : w &&& (0x0100 : CmdWord) = if w.getLsbD 8 then (0x0100 : CmdWord) else (0x0000 : CmdWord) := by
  have h : (0x0100 : CmdWord) = BitVec.twoPow 16 8 := by decide
  rw [h, BitVec.and_twoPow]; rfl

/-- Bit 0 of a word. -/
theorem word_bit0 (w : CmdWord) : w &&& (0x0001 : CmdWord) = if w.getLsbD 0 then (0x0001 : CmdWord) else (0x0000 : CmdWord) := by
  have h : (0x0001 : CmdWord) = BitVec.twoPow 16 0 := by decide
  rw [h, BitVec.and_twoPow]; rfl

/-- The bits of a word from `a` up, as a number. -/
theorem word_high_bits (w m : CmdWord) (a : Nat) (h : m = BitVec.allOnes 16 <<< a) :
    (w &&& m).toNat = w.toNat / 2 ^ a * 2 ^ a := by
  have e : w &&& m = (w >>> a) <<< a := by
    rw [h]
    ext i hi
    simp only [BitVec.getElem_and, BitVec.getElem_shiftLeft, BitVec.getElem_ushiftRight]
    by_cases hia : i < a
    · simp [hia]
    · have h2 : a + (i - a) = i := by omega
      simp [hia, h2, BitVec.getLsbD_eq_getElem hi, -BitVec.reduceAllOnes]
  have hw : w.toNat / 2 ^ a * 2 ^ a ≤ w.toNat := Nat.div_mul_le_self _ _
  rw [e, BitVec.toNat_shiftLeft, BitVec.toNat_ushiftRight, Nat.shiftRight_eq_div_pow,
    Nat.shiftLeft_eq, Nat.mod_eq_of_lt (lt_of_le_of_lt hw w.isLt)]

/-- A byte of format S is its op-code nibble and its step. -/
theorem byte_step (b : Byte) : (b &&& 0xF0#8) ||| (fieldStep b).setWidth 8 = b := by
  revert b; decide +kernel

/-- The coarse byte of a frame is its op-code bits and its tens digit. -/
theorem byte_tens (b : Byte) : (b &&& 0xF8#8) ||| (fieldTens b).setWidth 8 = b := by
  revert b; decide +kernel

/-- A step laid over a base is read back, and the base with it. -/
theorem stepByte_fields (base : Byte) (k : Nibble) (h : base &&& 0x0F#8 = 0) :
    fieldStep (stepByte base k) = k ∧ stepByte base k &&& 0xF0#8 = base := by
  revert h k base; decide +kernel

end Sys2Proof
end

