-- ==== Sys2Proof/Laws/State.lean ====
section
/-! SUPPORT. The fields of every named update of the state, one lemma a field, each true by definition. -/

namespace Sys2Proof.Machine

/-! ### `endCommand` -/

@[simp] theorem State.endCommand_phase (r : Result) (s : State) :
    (State.endCommand r s).phase = s.phase := rfl
@[simp] theorem State.endCommand_ctor (r : Result) (s : State) :
    (State.endCommand r s).ctor = s.ctor := rfl
@[simp] theorem State.endCommand_addr7 (r : Result) (s : State) :
    (State.endCommand r s).addr7 = s.addr7 := rfl
@[simp] theorem State.endCommand_timer (r : Result) (s : State) :
    (State.endCommand r s).timer = s.timer := rfl
@[simp] theorem State.endCommand_latches (r : Result) (s : State) :
    (State.endCommand r s).latches = s.latches := rfl
@[simp] theorem State.endCommand_stage (r : Result) (s : State) :
    (State.endCommand r s).stage = s.stage := rfl
@[simp] theorem State.endCommand_txReq (r : Result) (s : State) :
    (State.endCommand r s).txReq = s.txReq := rfl
@[simp] theorem State.endCommand_rsp (r : Result) (s : State) :
    (State.endCommand r s).rsp = some r := rfl
@[simp] theorem State.endCommand_draws (r : Result) (s : State) :
    (State.endCommand r s).draws = s.draws := rfl
@[simp] theorem State.endCommand_cmdIn (r : Result) (s : State) :
    (State.endCommand r s).cmdIn = s.cmdIn := rfl
@[simp] theorem State.endCommand_txIn (r : Result) (s : State) :
    (State.endCommand r s).txIn = s.txIn := rfl
@[simp] theorem State.endCommand_rstIn (r : Result) (s : State) :
    (State.endCommand r s).rstIn = s.rstIn := rfl
@[simp] theorem State.endCommand_trace (r : Result) (s : State) :
    (State.endCommand r s).trace = s.trace := rfl
@[simp] theorem State.endCommand_results (r : Result) (s : State) :
    (State.endCommand r s).results = s.results ++ [r] := rfl

/-! ### `enterWrite` -/

@[simp] theorem State.enterWrite_phase (b0 b1 : Byte) (s : State) :
    (State.enterWrite b0 b1 s).phase = .write := rfl
@[simp] theorem State.enterWrite_ctor (b0 b1 : Byte) (s : State) :
    (State.enterWrite b0 b1 s).ctor = s.ctor := rfl
@[simp] theorem State.enterWrite_addr7 (b0 b1 : Byte) (s : State) :
    (State.enterWrite b0 b1 s).addr7 = s.addr7 := rfl
@[simp] theorem State.enterWrite_timer (b0 b1 : Byte) (s : State) :
    (State.enterWrite b0 b1 s).timer = s.timer := rfl
@[simp] theorem State.enterWrite_latches (b0 b1 : Byte) (s : State) :
    (State.enterWrite b0 b1 s).latches = { s.latches with coarse := b0, fine := b1 } := rfl
@[simp] theorem State.enterWrite_stage (b0 b1 : Byte) (s : State) :
    (State.enterWrite b0 b1 s).stage = .coarseDue := rfl
@[simp] theorem State.enterWrite_txReq (b0 b1 : Byte) (s : State) :
    (State.enterWrite b0 b1 s).txReq = true := rfl
@[simp] theorem State.enterWrite_rsp (b0 b1 : Byte) (s : State) :
    (State.enterWrite b0 b1 s).rsp = s.rsp := rfl
@[simp] theorem State.enterWrite_draws (b0 b1 : Byte) (s : State) :
    (State.enterWrite b0 b1 s).draws = s.draws := rfl
@[simp] theorem State.enterWrite_cmdIn (b0 b1 : Byte) (s : State) :
    (State.enterWrite b0 b1 s).cmdIn = s.cmdIn := rfl
@[simp] theorem State.enterWrite_txIn (b0 b1 : Byte) (s : State) :
    (State.enterWrite b0 b1 s).txIn = s.txIn := rfl
@[simp] theorem State.enterWrite_rstIn (b0 b1 : Byte) (s : State) :
    (State.enterWrite b0 b1 s).rstIn = s.rstIn := rfl
@[simp] theorem State.enterWrite_trace (b0 b1 : Byte) (s : State) :
    (State.enterWrite b0 b1 s).trace = s.trace := rfl
@[simp] theorem State.enterWrite_results (b0 b1 : Byte) (s : State) :
    (State.enterWrite b0 b1 s).results = s.results := rfl

/-! ### `enterSettle` -/

@[simp] theorem State.enterSettle_phase (s : State) :
    (State.enterSettle s).phase = .settle := rfl
@[simp] theorem State.enterSettle_ctor (s : State) :
    (State.enterSettle s).ctor = s.ctor := rfl
@[simp] theorem State.enterSettle_addr7 (s : State) :
    (State.enterSettle s).addr7 = s.addr7 := rfl
@[simp] theorem State.enterSettle_timer (s : State) :
    (State.enterSettle s).timer = Config.settleLoad := rfl
@[simp] theorem State.enterSettle_latches (s : State) :
    (State.enterSettle s).latches = s.latches := rfl
@[simp] theorem State.enterSettle_stage (s : State) :
    (State.enterSettle s).stage = s.stage := rfl
@[simp] theorem State.enterSettle_txReq (s : State) :
    (State.enterSettle s).txReq = s.txReq := rfl
@[simp] theorem State.enterSettle_rsp (s : State) :
    (State.enterSettle s).rsp = s.rsp := rfl
@[simp] theorem State.enterSettle_draws (s : State) :
    (State.enterSettle s).draws = s.draws := rfl
@[simp] theorem State.enterSettle_cmdIn (s : State) :
    (State.enterSettle s).cmdIn = s.cmdIn := rfl
@[simp] theorem State.enterSettle_txIn (s : State) :
    (State.enterSettle s).txIn = s.txIn := rfl
@[simp] theorem State.enterSettle_rstIn (s : State) :
    (State.enterSettle s).rstIn = s.rstIn := rfl
@[simp] theorem State.enterSettle_trace (s : State) :
    (State.enterSettle s).trace = s.trace := rfl
@[simp] theorem State.enterSettle_results (s : State) :
    (State.enterSettle s).results = s.results := rfl

/-! ### `redrawLatches` -/

@[simp] theorem State.redrawLatches_phase (s : State) :
    (State.redrawLatches s).phase = s.phase := rfl
@[simp] theorem State.redrawLatches_ctor (s : State) :
    (State.redrawLatches s).ctor = s.ctor := rfl
@[simp] theorem State.redrawLatches_addr7 (s : State) :
    (State.redrawLatches s).addr7 = s.addr7 := rfl
@[simp] theorem State.redrawLatches_timer (s : State) :
    (State.redrawLatches s).timer = s.timer := rfl
@[simp] theorem State.redrawLatches_latches (s : State) :
    (State.redrawLatches s).latches = Config.latchDraw s.draws := rfl
@[simp] theorem State.redrawLatches_stage (s : State) :
    (State.redrawLatches s).stage = s.stage := rfl
@[simp] theorem State.redrawLatches_txReq (s : State) :
    (State.redrawLatches s).txReq = s.txReq := rfl
@[simp] theorem State.redrawLatches_rsp (s : State) :
    (State.redrawLatches s).rsp = s.rsp := rfl
@[simp] theorem State.redrawLatches_draws (s : State) :
    (State.redrawLatches s).draws = s.draws + 1 := rfl
@[simp] theorem State.redrawLatches_cmdIn (s : State) :
    (State.redrawLatches s).cmdIn = s.cmdIn := rfl
@[simp] theorem State.redrawLatches_txIn (s : State) :
    (State.redrawLatches s).txIn = s.txIn := rfl
@[simp] theorem State.redrawLatches_rstIn (s : State) :
    (State.redrawLatches s).rstIn = s.rstIn := rfl
@[simp] theorem State.redrawLatches_trace (s : State) :
    (State.redrawLatches s).trace = s.trace := rfl
@[simp] theorem State.redrawLatches_results (s : State) :
    (State.redrawLatches s).results = s.results := rfl

/-! ### `nextClock` -/

@[simp] theorem State.nextClock_phase (s : State) :
    (State.nextClock s).phase = s.phase := rfl
@[simp] theorem State.nextClock_ctor (s : State) :
    (State.nextClock s).ctor = s.ctor := rfl
@[simp] theorem State.nextClock_addr7 (s : State) :
    (State.nextClock s).addr7 = s.addr7 := rfl
@[simp] theorem State.nextClock_timer (s : State) :
    (State.nextClock s).timer = s.timer := rfl
@[simp] theorem State.nextClock_latches (s : State) :
    (State.nextClock s).latches = s.latches := rfl
@[simp] theorem State.nextClock_stage (s : State) :
    (State.nextClock s).stage = s.stage := rfl
@[simp] theorem State.nextClock_txReq (s : State) :
    (State.nextClock s).txReq = false := rfl
@[simp] theorem State.nextClock_rsp (s : State) :
    (State.nextClock s).rsp = none := rfl
@[simp] theorem State.nextClock_draws (s : State) :
    (State.nextClock s).draws = s.draws := rfl
@[simp] theorem State.nextClock_cmdIn (s : State) :
    (State.nextClock s).cmdIn = s.cmdIn := rfl
@[simp] theorem State.nextClock_txIn (s : State) :
    (State.nextClock s).txIn = s.txIn := rfl
@[simp] theorem State.nextClock_rstIn (s : State) :
    (State.nextClock s).rstIn = s.rstIn.tail := rfl
@[simp] theorem State.nextClock_trace (s : State) :
    (State.nextClock s).trace = s.trace := rfl
@[simp] theorem State.nextClock_results (s : State) :
    (State.nextClock s).results = s.results := rfl

/-! ### `settlePhase`: what it leaves alone, and the four fields it decides -/

@[simp] theorem State.settlePhase_timer (t : TxStatus) (s : State) :
    (State.settlePhase t s).timer = s.timer := by
  unfold State.settlePhase; split <;> rfl
@[simp] theorem State.settlePhase_latches (t : TxStatus) (s : State) :
    (State.settlePhase t s).latches = s.latches := by
  unfold State.settlePhase; split <;> rfl
@[simp] theorem State.settlePhase_stage (t : TxStatus) (s : State) :
    (State.settlePhase t s).stage = s.stage := by
  unfold State.settlePhase; split <;> rfl
@[simp] theorem State.settlePhase_txReq (t : TxStatus) (s : State) :
    (State.settlePhase t s).txReq = s.txReq := by
  unfold State.settlePhase; split <;> rfl
@[simp] theorem State.settlePhase_rsp (t : TxStatus) (s : State) :
    (State.settlePhase t s).rsp = s.rsp := by
  unfold State.settlePhase; split <;> rfl
@[simp] theorem State.settlePhase_draws (t : TxStatus) (s : State) :
    (State.settlePhase t s).draws = s.draws := by
  unfold State.settlePhase; split <;> rfl
@[simp] theorem State.settlePhase_cmdIn (t : TxStatus) (s : State) :
    (State.settlePhase t s).cmdIn = s.cmdIn := by
  unfold State.settlePhase; split <;> rfl
@[simp] theorem State.settlePhase_txIn (t : TxStatus) (s : State) :
    (State.settlePhase t s).txIn = s.txIn := by
  unfold State.settlePhase; split <;> rfl
@[simp] theorem State.settlePhase_rstIn (t : TxStatus) (s : State) :
    (State.settlePhase t s).rstIn = s.rstIn := by
  unfold State.settlePhase; split <;> rfl
@[simp] theorem State.settlePhase_trace (t : TxStatus) (s : State) :
    (State.settlePhase t s).trace = s.trace := by
  unfold State.settlePhase; split <;> rfl
@[simp] theorem State.settlePhase_results (t : TxStatus) (s : State) :
    (State.settlePhase t s).results = s.results := by
  unfold State.settlePhase; split <;> rfl

@[simp] theorem State.settlePhase_phase (t : TxStatus) (s : State) :
    (State.settlePhase t s).phase = if s.ctor = true ∧ t ≠ .ok then .off else .ready := by
  unfold State.settlePhase; split <;> simp_all

@[simp] theorem State.settlePhase_addr7 (t : TxStatus) (s : State) :
    (State.settlePhase t s).addr7 = if s.ctor = true ∧ t ≠ .ok then none else s.addr7 := by
  unfold State.settlePhase; split <;> simp_all

@[simp] theorem State.settlePhase_ctor (t : TxStatus) (s : State) :
    (State.settlePhase t s).ctor = false := by
  unfold State.settlePhase; split <;> simp_all

/-! ### `finishWrite` -/

@[simp] theorem State.finishWrite_phase (a : Addr7) (b0 b1 : Byte) (t : TxStatus) (s : State) :
    (State.finishWrite a b0 b1 t s).phase = if s.ctor = true ∧ t ≠ .ok then .off else .ready := by
  simp [State.finishWrite]
@[simp] theorem State.finishWrite_ctor (a : Addr7) (b0 b1 : Byte) (t : TxStatus) (s : State) :
    (State.finishWrite a b0 b1 t s).ctor = false := by
  simp [State.finishWrite]
@[simp] theorem State.finishWrite_addr7 (a : Addr7) (b0 b1 : Byte) (t : TxStatus) (s : State) :
    (State.finishWrite a b0 b1 t s).addr7 = if s.ctor = true ∧ t ≠ .ok then none else s.addr7 := by
  simp [State.finishWrite]
@[simp] theorem State.finishWrite_timer (a : Addr7) (b0 b1 : Byte) (t : TxStatus) (s : State) :
    (State.finishWrite a b0 b1 t s).timer = s.timer := by
  simp [State.finishWrite]
@[simp] theorem State.finishWrite_latches (a : Addr7) (b0 b1 : Byte) (t : TxStatus) (s : State) :
    (State.finishWrite a b0 b1 t s).latches = Config.latchDraw s.draws := by
  simp [State.finishWrite]
@[simp] theorem State.finishWrite_stage (a : Addr7) (b0 b1 : Byte) (t : TxStatus) (s : State) :
    (State.finishWrite a b0 b1 t s).stage = .coarseDue := by
  simp [State.finishWrite]
@[simp] theorem State.finishWrite_txReq (a : Addr7) (b0 b1 : Byte) (t : TxStatus) (s : State) :
    (State.finishWrite a b0 b1 t s).txReq = s.txReq := by
  simp [State.finishWrite]
@[simp] theorem State.finishWrite_rsp (a : Addr7) (b0 b1 : Byte) (t : TxStatus) (s : State) :
    (State.finishWrite a b0 b1 t s).rsp = some (translateAnswer t) := by
  simp [State.finishWrite]
@[simp] theorem State.finishWrite_draws (a : Addr7) (b0 b1 : Byte) (t : TxStatus) (s : State) :
    (State.finishWrite a b0 b1 t s).draws = s.draws + 1 := by
  simp [State.finishWrite]
@[simp] theorem State.finishWrite_cmdIn (a : Addr7) (b0 b1 : Byte) (t : TxStatus) (s : State) :
    (State.finishWrite a b0 b1 t s).cmdIn = s.cmdIn := by
  simp [State.finishWrite]
@[simp] theorem State.finishWrite_txIn (a : Addr7) (b0 b1 : Byte) (t : TxStatus) (s : State) :
    (State.finishWrite a b0 b1 t s).txIn = s.txIn := by
  simp [State.finishWrite]
@[simp] theorem State.finishWrite_rstIn (a : Addr7) (b0 b1 : Byte) (t : TxStatus) (s : State) :
    (State.finishWrite a b0 b1 t s).rstIn = s.rstIn := by
  simp [State.finishWrite]
@[simp] theorem State.finishWrite_trace (a : Addr7) (b0 b1 : Byte) (t : TxStatus) (s : State) :
    (State.finishWrite a b0 b1 t s).trace = s.trace ++ [.write a b0 b1 t] := by
  simp [State.finishWrite]
@[simp] theorem State.finishWrite_results (a : Addr7) (b0 b1 : Byte) (t : TxStatus) (s : State) :
    (State.finishWrite a b0 b1 t s).results = s.results ++ [translateAnswer t] := by
  simp [State.finishWrite]

/-! ### The view of the command layer -/

@[simp] theorem State.controller_phase (s : State) : s.controller.phase = s.phase := rfl
@[simp] theorem State.controller_ctor (s : State) : s.controller.ctor = s.ctor := rfl
@[simp] theorem State.controller_addr7 (s : State) : s.controller.addr7 = s.addr7 := rfl

end Sys2Proof.Machine
end

