-- ==== Sys2Proof/Laws/Operations.lean ====
section
/-! SUPPORT. One lemma per shared operation that says once everything it can do; a proof about a step cites
it instead of unfolding the operation. -/

namespace Sys2Proof.Machine

/-! ### Arithmetic -/

/-- With the admitted parameters MAP_VOLUME is `((100 - clamp v) * 79) // 100`. -/
theorem mapVolume_admitted (v : Int) :
    mapVolume v 0 100 0 79 = .ok ((100 - clamp v 0 100) * 79 / 100) := by
  simp [mapVolume, Config.volMin, Config.volMax, Config.attMin, Config.attMax, rescale, mapProduct,
    flipVolume, Config.flip]

/-- The clamp does not act inside its range. -/
theorem clamp_of_mem (v lo hi : Int) (h0 : lo ≤ v) (h1 : v ≤ hi) : clamp v lo hi = v := by
  unfold clamp; split
  · omega
  · split <;> omega

theorem volumeInRange_iff (v : Int) : volumeInRange v = true ↔ 0 ≤ v ∧ v ≤ 100 := by
  unfold volumeInRange Config.volMin Config.volMax
  rw [Bool.and_eq_true, decide_eq_true_iff, decide_eq_true_iff]

/-- The channel test passes exactly on 0..5, and gives the index itself. -/
theorem channelIndex_eq_some (c : Int) (ch : Fin 6) :
    channelIndex c = some ch ↔ c = (ch.val : Int) := by
  unfold channelIndex Config.nCh
  split
  next h =>
    constructor
    · intro e
      have := congrArg Fin.val (Option.some.inj e)
      simp at this; omega
    · intro e
      congr 1; apply Fin.ext; simp; omega
  next h =>
    have := ch.isLt
    constructor
    · intro e; simp at e
    · intro e; exact absurd ⟨by omega, by omega⟩ h

theorem channelIndex_eq_none (c : Int) : channelIndex c = none ↔ c < 0 ∨ 5 < c := by
  unfold channelIndex Config.nCh
  split <;> simp <;> omega

/-- A volume payload is always taken: phase WRITE with the latches of the volume. -/
theorem volumeWrite_eq (pair : RegisterPair) (v : Int) (s : State) :
    volumeWrite pair v s =
      .next { s with phase := .write, stage := .coarseDue, txReq := true,
                     latches := volumeLatches pair v ((100 - clamp v 0 100) * 79 / 100) } := by
  unfold volumeWrite
  have h : mapVolume v Config.volMin Config.volMax Config.attMin Config.attMax
      = .ok ((100 - clamp v 0 100) * 79 / 100) := mapVolume_admitted v
  rw [h]; rfl

/-! ### Phase WRITE -/

theorem handCoarse_eq_next {base : Byte} {step : Nibble} {s s' : State}
    (h : handCoarse base step s = .next s') :
    step ≤ 7 ∧ s.phase = .write ∧ s.stage = .coarseDue ∧ s.latches.coarse = stepByte base step ∧
      s' = { s with stage := .fineDue } := by
  unfold handCoarse at h
  split at h
  · cases h
  · split at h
    · next h7 hc => cases h; exact ⟨by simpa using h7, hc.1, hc.2.1, hc.2.2, rfl⟩
    · cases h

theorem handFineByte_eq_next {b : Byte} {s s' : State} (h : handFineByte b s = .next s') :
    s.phase = .write ∧ s.stage = .fineDue ∧ s.latches.fine = b ∧ s' = { s with stage := .answerDue } := by
  unfold handFineByte at h
  split at h
  · next hc => cases h; exact ⟨hc.1, hc.2.1, hc.2.2, rfl⟩
  · cases h

theorem handFine_eq_next {base : Byte} {step : Nibble} {s s' : State}
    (h : handFine base step s = .next s') :
    step ≤ 9 ∧ s.phase = .write ∧ s.stage = .fineDue ∧ s.latches.fine = stepByte base step ∧
      s' = { s with stage := .answerDue } := by
  unfold handFine at h
  split at h
  · cases h
  · next h9 => exact ⟨by simpa using h9, handFineByte_eq_next h⟩

/-- Waiting for the answer comes to one of three things: silence, a sample without an answer, the answer. -/
theorem awaitAnswer_cases (a : Addr7) (b0 b1 : Byte) (s : State) :
    (s.txIn = [] ∧ State.awaitAnswer a b0 b1 s = s) ∨
    (∃ x rest, s.txIn = x :: rest ∧ x.done = false ∧ State.awaitAnswer a b0 b1 s = { s with txIn := rest }) ∨
    (∃ x rest, s.txIn = x :: rest ∧ x.done = true ∧
      State.awaitAnswer a b0 b1 s = State.finishWrite a b0 b1 x.answer { s with txIn := rest }) := by
  unfold State.awaitAnswer
  cases hx : s.txIn with
  | nil => exact .inl ⟨rfl, rfl⟩
  | cons x rest =>
    cases hd : x.done with
    | false => exact .inr (.inl ⟨x, rest, rfl, hd, by simp [hd]⟩)
    | true => exact .inr (.inr ⟨x, rest, rfl, hd, by simp [hd]⟩)

/-- A frame that goes on is the transaction in flight, waiting. -/
theorem frameWrite_eq_next {b0 b1 : Byte} {s s' : State} (h : frameWrite b0 b1 s = .next s') :
    ∃ a, s.phase = .write ∧ s.stage = .answerDue ∧ s.latches.coarse = b0 ∧ s.latches.fine = b1 ∧
      s.addr7 = some a ∧ s' = State.awaitAnswer a b0 b1 s := by
  unfold frameWrite at h
  split at h
  · next hc =>
    split at h
    · cases h
    · next a ha => cases h; exact ⟨a, hc.1, hc.2.1, hc.2.2.1, hc.2.2.2, ha, rfl⟩
  · cases h

theorem volumeFrameWrite_eq_next {pair : RegisterPair} {t : BitVec 3} {o : Nibble} {s s' : State}
    (h : volumeFrameWrite pair t o s = .next s') :
    o ≤ 9 ∧ frameWrite (pair.coarseBase ||| t.setWidth 8) (stepByte pair.fineBase o) s = .next s' := by
  unfold volumeFrameWrite at h
  split at h
  · cases h
  · next h9 => exact ⟨by simpa using h9, h⟩

/-! ### Phase SETTLE and reset -/

theorem settleTick_cases (s : State) :
    (s.timer.toNat ≤ 1 ∧ s.settleTick =
      { s with phase := .write, stage := .coarseDue, timer := 0, txReq := true,
               latches := { s.latches with coarse := 0x00, fine := 0xC0 },
               trace := s.trace ++ [.delay 200] }) ∨
    (1 < s.timer.toNat ∧ s.settleTick = { s with timer := s.timer - 1 }) := by
  unfold State.settleTick
  split
  · next h => exact .inl ⟨h, rfl⟩
  · next h => exact .inr ⟨by omega, rfl⟩

theorem resetEvent_eq_next {s s' : State} (h : s.resetEvent = .next s') :
    s.phase ≠ .write ∧
      s' = { State.reset with draws := s.draws, cmdIn := s.cmdIn, txIn := s.txIn, rstIn := s.rstIn,
                              trace := s.trace, results := s.results } := by
  unfold State.resetEvent at h
  split at h
  · cases h
  · next hp => cases h; exact ⟨hp, rfl⟩

theorem Config.settleTicks_pos : 1 ≤ Config.settleTicks := by
  have := Config.fClk.pos
  unfold Config.settleTicks; omega

/-- `SETTLE_TICKS` fits the timer's width. -/
theorem Config.settleTicks_lt : Config.settleTicks < 2 ^ Config.timerW :=
  Nat.lt_of_succ_le (Nat.le_pow_clog (by decide) _)

/-- The timer holds `SETTLE_TICKS` without loss. -/
@[simp] theorem Config.settleLoad_toNat : Config.settleLoad.toNat = Config.settleTicks := by
  unfold Config.settleLoad
  rw [BitVec.toNat_ofNat, Nat.mod_eq_of_lt Config.settleTicks_lt]

/-- Counting down a timer that is not 0 takes one off its number. -/
theorem timer_sub_one_toNat {t : TimerWord} (h : 1 ≤ t.toNat) : (t - 1).toNat = t.toNat - 1 := by
  have ht := t.isLt
  have h1 : (1 : TimerWord).toNat = 1 := by
    show (BitVec.ofNat Config.timerW 1).toNat = 1
    rw [BitVec.toNat_ofNat, Nat.mod_eq_of_lt (by omega)]
  rw [BitVec.toNat_sub_of_le (by rw [BitVec.le_def, h1]; exact h), h1]

/-! ### What a step can do -/

/-- A step that goes on is a reset event, an idle clock, a clock of the settle delay, or the instruction that
was fetched. -/
theorem step_eq_next {s s' : State} (h : step s = .next s') :
    (s.resetAsserted = true ∧ s.nextClock.resetEvent = .next s') ∨
    (s.resetAsserted = false ∧ fetch s.nextClock = .idle ∧ s' = s.nextClock) ∨
    (s.resetAsserted = false ∧ fetch s.nextClock = .settling ∧ s' = s.nextClock.settleTick) ∨
    (∃ i t, s.resetAsserted = false ∧ fetch s.nextClock = .run i t ∧ exec i t = .next s') := by
  unfold step at h
  split at h
  · next hr => exact .inl ⟨hr, h⟩
  · next hr =>
    have hr' : s.resetAsserted = false := by simpa using hr
    split at h
    · next hf => cases h; exact .inr (.inl ⟨hr', hf, rfl⟩)
    · next hf => cases h; exact .inr (.inr (.inl ⟨hr', hf, rfl⟩))
    · next i t hf => exact .inr (.inr (.inr ⟨i, t, hr', hf, h⟩))
    · cases h

/-- A fetched instruction is the command presented, or the part of the payload the stage names. -/
theorem fetch_eq_run {s t : State} {i : Instr} (h : fetch s = .run i t) :
    (∃ w rest, (s.phase = .off ∨ s.phase = .ready) ∧ s.cmdIn = w :: rest ∧ decodeCommand w = .ok i ∧
      t = { s with cmdIn := rest }) ∨
    (s.phase = .write ∧ t = s ∧
      ((s.stage = .coarseDue ∧ decodeWire s.latches.coarse = .ok i) ∨
       (s.stage = .fineDue ∧ decodeWire s.latches.fine = .ok i) ∨
       (s.stage = .answerDue ∧ decodeFrame s.latches.coarse s.latches.fine = .ok i))) := by
  have cmd : fetchCommand s = .run i t → ∃ w rest, s.cmdIn = w :: rest ∧ decodeCommand w = .ok i ∧
      t = { s with cmdIn := rest } := by
    intro h
    unfold fetchCommand at h
    split at h
    · cases h
    · next w rest hc =>
      unfold fetched at h
      split at h
      · next j hd => cases h; exact ⟨w, rest, hc, hd, rfl⟩
      · cases h
  unfold fetch at h
  split at h
  · next hp => obtain ⟨w, rest, h⟩ := cmd h; exact .inl ⟨w, rest, .inl hp, h⟩
  · next hp => obtain ⟨w, rest, h⟩ := cmd h; exact .inl ⟨w, rest, .inr hp, h⟩
  · cases h
  · next hp =>
    refine .inr ⟨hp, ?_⟩
    unfold fetchPayload at h
    split at h <;> (next hs =>
      unfold fetched at h
      split at h
      · next j hd => cases h; simp_all [decode]
      · cases h)

/-- A decoded command word is one of the five commands. -/
theorem decodeCommand_kind {w : CmdWord} {i : Instr} (h : decodeCommand w = .ok i) : i.kind = .command := by
  unfold decodeCommand at h
  split_ifs at h <;> (cases h; rfl)

/-- The kind of what a wire byte decodes to, over all 256 bytes. -/
theorem decodeWire_kinds :
    ∀ b : Byte, ((decodeWire b).toOption.map Instr.kind).getD .wireByte = .wireByte := by decide +kernel

/-- A decoded wire byte is one of the 17 op-codes. -/
theorem decodeWire_kind {b : Byte} {i : Instr} (h : decodeWire b = .ok i) : i.kind = .wireByte := by
  have hb := decodeWire_kinds b
  rw [h] at hb
  exact hb

/-- A decoded frame is one of the ten. -/
theorem decodeFrame_kind {b0 b1 : Byte} {i : Instr} (h : decodeFrame b0 b1 = .ok i) : i.kind = .frame := by
  unfold decodeFrame at h
  split_ifs at h <;> (cases h; rfl)

end Sys2Proof.Machine
end

