-- ==== Sys2Proof/Laws/PerInstr.lean ====
section
/-! SUPPORT. Statements about every instruction as syntax, one lemma per constructor. `EncodedLength`: an
instruction's encoding has the length its row has (spec/30_encoding.md R80). -/

namespace Sys2Proof.Laws

/-- The width of a row of the opcode table, by its kind (R80). -/
def rowBits : Kind → Nat
  | .command => 16
  | .wireByte => 8
  | .frame => 16

/-- The encoding of `i` has as many bits as `i`'s row. -/
def EncodedLength.Statement (i : Instr) : Prop := encodedBits (encode i) = rowBits i.kind

theorem EncodedLength.new (address : Int) (tp : Bool) :
    EncodedLength.Statement (.new address tp) := rfl
theorem EncodedLength.init :
    EncodedLength.Statement .init := rfl
theorem EncodedLength.setMaster (volume : Int) :
    EncodedLength.Statement (.setMaster volume) := rfl
theorem EncodedLength.setChannel (channel volume : Int) :
    EncodedLength.Statement (.setChannel channel volume) := rfl
theorem EncodedLength.setMute (enabled : Bool) :
    EncodedLength.Statement (.setMute enabled) := rfl
theorem EncodedLength.clear :
    EncodedLength.Statement .clear := rfl
theorem EncodedLength.muteOn :
    EncodedLength.Statement .muteOn := rfl
theorem EncodedLength.muteOff :
    EncodedLength.Statement .muteOff := rfl
theorem EncodedLength.master10db (step : Nibble) :
    EncodedLength.Statement (.master10db step) := rfl
theorem EncodedLength.master1db (step : Nibble) :
    EncodedLength.Statement (.master1db step) := rfl
theorem EncodedLength.ch1x10db (step : Nibble) :
    EncodedLength.Statement (.ch1x10db step) := rfl
theorem EncodedLength.ch2x10db (step : Nibble) :
    EncodedLength.Statement (.ch2x10db step) := rfl
theorem EncodedLength.ch3x10db (step : Nibble) :
    EncodedLength.Statement (.ch3x10db step) := rfl
theorem EncodedLength.ch4x10db (step : Nibble) :
    EncodedLength.Statement (.ch4x10db step) := rfl
theorem EncodedLength.ch5x10db (step : Nibble) :
    EncodedLength.Statement (.ch5x10db step) := rfl
theorem EncodedLength.ch6x10db (step : Nibble) :
    EncodedLength.Statement (.ch6x10db step) := rfl
theorem EncodedLength.ch1x1db (step : Nibble) :
    EncodedLength.Statement (.ch1x1db step) := rfl
theorem EncodedLength.ch2x1db (step : Nibble) :
    EncodedLength.Statement (.ch2x1db step) := rfl
theorem EncodedLength.ch3x1db (step : Nibble) :
    EncodedLength.Statement (.ch3x1db step) := rfl
theorem EncodedLength.ch4x1db (step : Nibble) :
    EncodedLength.Statement (.ch4x1db step) := rfl
theorem EncodedLength.ch5x1db (step : Nibble) :
    EncodedLength.Statement (.ch5x1db step) := rfl
theorem EncodedLength.ch6x1db (step : Nibble) :
    EncodedLength.Statement (.ch6x1db step) := rfl
theorem EncodedLength.fClear :
    EncodedLength.Statement .fClear := rfl
theorem EncodedLength.fMuteOn :
    EncodedLength.Statement .fMuteOn := rfl
theorem EncodedLength.fMuteOff :
    EncodedLength.Statement .fMuteOff := rfl
theorem EncodedLength.fMaster (tens : BitVec 3) (ones : Nibble) :
    EncodedLength.Statement (.fMaster tens ones) := rfl
theorem EncodedLength.fCh1 (tens : BitVec 3) (ones : Nibble) :
    EncodedLength.Statement (.fCh1 tens ones) := rfl
theorem EncodedLength.fCh2 (tens : BitVec 3) (ones : Nibble) :
    EncodedLength.Statement (.fCh2 tens ones) := rfl
theorem EncodedLength.fCh3 (tens : BitVec 3) (ones : Nibble) :
    EncodedLength.Statement (.fCh3 tens ones) := rfl
theorem EncodedLength.fCh4 (tens : BitVec 3) (ones : Nibble) :
    EncodedLength.Statement (.fCh4 tens ones) := rfl
theorem EncodedLength.fCh5 (tens : BitVec 3) (ones : Nibble) :
    EncodedLength.Statement (.fCh5 tens ones) := rfl
theorem EncodedLength.fCh6 (tens : BitVec 3) (ones : Nibble) :
    EncodedLength.Statement (.fCh6 tens ones) := rfl

end Sys2Proof.Laws
end

