-- ==== Sys2Proof/Laws/Runs.lean ====
section
/-! SUPPORT. Runs of several steps: how a run of `k + 1` steps unfolds, and how runs join. -/

namespace Sys2Proof.Machine

/-- For any machine: after a first step that goes on, the rest of the run is the run from there. -/
theorem hostRun_next (M : Host.Core) (k : Nat) (s t : M.State) (h : M.step s = .next t) :
    M.run (k + 1) s = M.run k t := by
  simp only [Host.Core.run, h]

/-- For any machine: a run of `k + j` steps is a run of `j` steps from where `k` steps lead. -/
theorem hostRun_add (M : Host.Core) (j k : Nat) :
    ∀ s t : M.State, M.run k s = .next t → M.run (k + j) s = M.run j t := by
  induction k with
  | zero =>
    intro s t h
    cases h
    rw [Nat.zero_add]
  | succ k ih =>
    intro s t h
    rw [Nat.succ_add]
    simp only [Host.Core.run] at h ⊢
    split at h
    · next u _ => exact ih u t h
    · cases h
    · cases h

/-- The first step of a run of this machine. -/
theorem run_next (k : Nat) (s t : State) (h : step s = .next t) :
    Host.Core.run core (k + 1) s = Host.Core.run core k t := hostRun_next core k s t h

/-- Two runs of this machine, one after the other. -/
theorem run_add (j k : Nat) (s t : State) (h : Host.Core.run core k s = .next t) :
    Host.Core.run core (k + j) s = Host.Core.run core j t := hostRun_add core j k s t h

end Sys2Proof.Machine
end

