-- ==== Sys2Proof/Tests/Slice0.lean ====
section
/-! SUPPORT. Our own tests. Expected values come from the worked examples and the derived vectors of
spec/95_test_vectors.md and from the tables of spec/30_encoding.md; the id of the source stands at each
test. The last part shows, for every obligation with hypotheses, values that meet them. -/

namespace Sys2Proof.Tests

open Sys2Proof Sys2Proof.Machine Sys2Proof.Safety

/-! ### Small states -/

/-- The state `(READY, a)` of spec/95. -/
def readyAt (a : Addr7) : State := { State.reset with phase := .ready, addr7 := some a }

/-- A transaction to 0x46 with the payload `[b0, b1]`, at `stage`. -/
def writingAt (stage : TxStage) (b0 b1 : Byte) : State :=
  { State.reset with phase := .write, stage := stage, addr7 := some 0x46,
                     latches := { resetLatches with coarse := b0, fine := b1 } }

/-- A transaction that waits, and the transport's next sample. -/
def answeredBy (b0 b1 : Byte) (x : TxSample) : State := { writingAt .answerDue b0 b1 with txIn := [x] }

/-- The sample of an answer with the status code `st` and the detail `d`. -/
def sample (st : BitVec 2) (d : Detail) : TxSample := { done := true, status := st, detail := d }

/-- What a test reads of a state: phase, address, results and events. -/
def seen (s : State) : Phase × Option Addr7 × List Result × List Event :=
  (s.phase, s.addr7, s.results, s.trace)

/-- A part of the next state, where there is one. -/
def onNext {α : Type} (f : State → α) : Outcome → Option α
  | .next s => some (f s)
  | .fault _ => none
  | .refused _ => none

/-- The payload a state in phase WRITE has on its port. -/
def payload (s : State) : Phase × Byte × Byte := (s.phase, s.latches.coarse, s.latches.fine)

/-- The reason a step was refused, where it was. -/
def refusal : Outcome → Option Refusal
  | .next _ => none
  | .fault _ => none
  | .refused r => some r

/-! ### Well-formedness: an ill-formed term for each check (R93, R82, R86) -/

theorem test_wf_new_above : Instr.wellFormed (.new 256 true) = false := by decide
theorem test_wf_new_below : Instr.wellFormed (.new (-1) true) = false := by decide
theorem test_wf_master_above : Instr.wellFormed (.setMaster 128) = false := by decide
theorem test_wf_master_below : Instr.wellFormed (.setMaster (-129)) = false := by decide
theorem test_wf_channel_above : Instr.wellFormed (.setChannel 8 0) = false := by decide
theorem test_wf_channel_below : Instr.wellFormed (.setChannel (-9) 0) = false := by decide
theorem test_wf_channel_volume : Instr.wellFormed (.setChannel 0 128) = false := by decide
theorem test_wf_tens : Instr.wellFormed (.master10db 8) = false := by decide
theorem test_wf_ones : Instr.wellFormed (.ch6x1db 10) = false := by decide
theorem test_wf_frame_ones : Instr.wellFormed (.fMaster 7 10) = false := by decide
theorem test_wf_edges :
    Instr.wellFormed (.new 255 false) = true ∧ Instr.wellFormed (.setChannel (-8) (-128)) = true ∧
    Instr.wellFormed (.setChannel 7 127) = true ∧ Instr.wellFormed (.ch3x10db 7) = true ∧
    Instr.wellFormed (.ch3x1db 9) = true ∧ Instr.wellFormed (.fCh6 7 9) = true := by decide

/-! ### Decoding: one word for each constructor, written out from R92, R82 and R86 -/

theorem test_decode_new : decode (.command 0b0000000110001000) = .ok (.new 0x88 true) := by decide
theorem test_decode_init : decode (.command 0b0010000000000000) = .ok .init := by decide
theorem test_decode_setMaster : decode (.command 0b0100000010000000) = .ok (.setMaster (-128)) := by decide
theorem test_decode_setChannel :
    decode (.command 0b0110111100110010) = .ok (.setChannel (-1) 50) := by decide
theorem test_decode_setMute : decode (.command 0b1000000000000001) = .ok (.setMute true) := by decide
theorem test_decode_clear : decode (.wire 0b11000000) = .ok .clear := by decide
theorem test_decode_muteOn : decode (.wire 0b11111001) = .ok .muteOn := by decide
theorem test_decode_muteOff : decode (.wire 0b11111000) = .ok .muteOff := by decide
theorem test_decode_master10db : decode (.wire 0b11010111) = .ok (.master10db 7) := by decide
theorem test_decode_master1db : decode (.wire 0b11101001) = .ok (.master1db 9) := by decide
theorem test_decode_ch1x10db : decode (.wire 0b10000111) = .ok (.ch1x10db 7) := by decide
theorem test_decode_ch2x10db : decode (.wire 0b01000110) = .ok (.ch2x10db 6) := by decide
theorem test_decode_ch3x10db : decode (.wire 0b00000000) = .ok (.ch3x10db 0) := by decide
theorem test_decode_ch4x10db : decode (.wire 0b00100001) = .ok (.ch4x10db 1) := by decide
theorem test_decode_ch5x10db : decode (.wire 0b01100010) = .ok (.ch5x10db 2) := by decide
theorem test_decode_ch6x10db : decode (.wire 0b10100011) = .ok (.ch6x10db 3) := by decide
theorem test_decode_ch1x1db : decode (.wire 0b10011001) = .ok (.ch1x1db 9) := by decide
theorem test_decode_ch2x1db : decode (.wire 0b01011000) = .ok (.ch2x1db 8) := by decide
theorem test_decode_ch3x1db : decode (.wire 0b00010111) = .ok (.ch3x1db 7) := by decide
theorem test_decode_ch4x1db : decode (.wire 0b00110110) = .ok (.ch4x1db 6) := by decide
theorem test_decode_ch5x1db : decode (.wire 0b01110100) = .ok (.ch5x1db 4) := by decide
theorem test_decode_ch6x1db : decode (.wire 0b10110101) = .ok (.ch6x1db 5) := by decide
theorem test_decode_fClear : decode (.frame 0b00000000 0b11000000) = .ok .fClear := by decide
theorem test_decode_fMuteOn : decode (.frame 0b00000000 0b11111001) = .ok .fMuteOn := by decide
theorem test_decode_fMuteOff : decode (.frame 0b00000000 0b11111000) = .ok .fMuteOff := by decide
theorem test_decode_fMaster : decode (.frame 0b11010100 0b11101001) = .ok (.fMaster 4 9) := by decide
theorem test_decode_fCh1 : decode (.frame 0b10000111 0b10011000) = .ok (.fCh1 7 8) := by decide
theorem test_decode_fCh2 : decode (.frame 0b01000110 0b01010111) = .ok (.fCh2 6 7) := by decide
theorem test_decode_fCh3 : decode (.frame 0b00000101 0b00010110) = .ok (.fCh3 5 6) := by decide
theorem test_decode_fCh4 : decode (.frame 0b00100011 0b00110101) = .ok (.fCh4 3 5) := by decide
theorem test_decode_fCh5 : decode (.frame 0b01100010 0b01110100) = .ok (.fCh5 2 4) := by decide
theorem test_decode_fCh6 : decode (.frame 0b10100001 0b10110011) = .ok (.fCh6 1 3) := by decide

/-- V-REFUSE: the reserved words. -/
theorem test_decode_reserved :
    decode (.command 0xA000) = .error .reservedOp ∧ decode (.command 0xE000) = .error .reservedOp ∧
    decode (.command 0x2001) = .error .mustBeZero ∧ decode (.command 0x4132) = .error .mustBeZero ∧
    decode (.command 0x8002) = .error .mustBeZero ∧ decode (.command 0x0388) = .error .mustBeZero ∧
    decode (.command 0x7032) = .error .mustBeZero := by decide

/-- V-WIRE: bytes that match no row, and steps that match by mask and are never emitted. -/
theorem test_decode_wire_edges :
    decode (.wire 0xC1) = .error .undefinedByte ∧ decode (.wire 0xFA) = .error .undefinedByte ∧
    decode (.wire 0xF0) = .error .undefinedByte ∧ decode (.wire 0xD8) = .ok (.master10db 8) ∧
    byteEmitted 0xD8 = false ∧ decode (.wire 0xEA) = .ok (.master1db 10) ∧ byteEmitted 0xEA = false := by decide

/-- V-WIRE: frames that are never emitted. -/
theorem test_decode_frame_edges :
    frameEmitted 0xD4 0x99 = false ∧ frameEmitted 0xE9 0xD4 = false ∧ frameEmitted 0xD0 0xC0 = false ∧
    frameEmitted 0xD8 0xE0 = false ∧ frameEmitted 0x00 0x10 = true := by decide

/-- A 16-bit word of the table is read by the row that fits it best (notes/assumptions/6). -/
theorem test_table_readings :
    decodeTableWord 16 0x404B = some (.setMaster 75) ∧ decodeTableWord 8 0xD7 = some (.master10db 7) ∧
    decodeTableWord 16 0xD4E9 = some (.fMaster 4 9) ∧ decodeTableWord 16 0x00C0 = some .fClear ∧
    decodeTableWord 16 0x4050 = some (.fCh2 0 0) ∧ decodeTableWord 16 0x405F = some (.setMaster 95) ∧
    decodeTableWord 16 0x475F = some (.fCh2 7 15) ∧ decodeTableWord 16 0xA000 = none ∧ decodeTableWord 8 0xC1 = none := by decide

/-! ### Commands -/

/-- V-NEW: `NEW 0x8C, true` stores 0x46. -/
theorem test_new_accepted :
    onNext (fun s => (s.phase, s.ctor, s.addr7)) (exec (.new 0x8C true) State.reset)
      = some (.settle, true, some 0x46) := by decide
/-- V-NEW: `NEW 0x44, false`: both bad, the transport is tested first. -/
theorem test_new_rejected :
    onNext seen (exec (.new 0x44 false) State.reset)
      = some (.off, none, [.err (.configuration .noTransport)], []) := by decide
/-- V-INIT: the settle delay, on a controller. -/
theorem test_init : onNext (fun s => (s.phase, s.ctor, s.addr7)) (exec .init (readyAt 0x46))
    = some (.settle, false, some 0x46) := by decide
/-- V-REFUSE: INIT in OFF. -/
theorem test_init_off : refusal (exec .init State.reset) = some .notAccepted := by decide
/-- E6: `set_master_volume(0)` is `[0xD7, 0xE9]`. -/
theorem test_setMaster : onNext payload (exec (.setMaster 0) (readyAt 0x44))
    = some (.write, 0xD7, 0xE9) := by decide
/-- V-VALID: `SET_MASTER 101`. -/
theorem test_setMaster_rejected : onNext seen (exec (.setMaster 101) (readyAt 0x44))
    = some (.ready, some 0x44, [.err (.validation .volume)], []) := by decide
/-- V-VALID: `SET_CHANNEL 5, 50` is `[0xA3, 0xB9]`. -/
theorem test_setChannel : onNext payload (exec (.setChannel 5 50) (readyAt 0x44))
    = some (.write, 0xA3, 0xB9) := by decide
/-- V-VALID: `SET_CHANNEL 7, -1`: both bad, the volume is tested first. -/
theorem test_setChannel_rejected : onNext seen (exec (.setChannel 7 (-1)) (readyAt 0x44))
    = some (.ready, some 0x44, [.err (.validation .volume)], []) := by decide
/-- E5: mute on. -/
theorem test_setMute_on : onNext payload (exec (.setMute true) (readyAt 0x46))
    = some (.write, 0x00, 0xF9) := by decide
/-- E5: mute off. -/
theorem test_setMute_off : onNext payload (exec (.setMute false) (readyAt 0x46))
    = some (.write, 0x00, 0xF8) := by decide

/-- V-MAP and V-CLAMP rows. -/
theorem test_mapVolume :
    mapVolume 50 0 100 0 79 = .ok 39 ∧ mapVolume 99 0 100 0 79 = .ok 0 ∧ mapVolume 12 0 100 0 79 = .ok 69 ∧
    mapVolume (-1000000) 0 100 0 79 = .ok 79 ∧ mapVolume 150 0 100 0 79 = .ok 0 ∧
    mapVolume 0 0 50 0 79 = .error .mapParameters := by decide
/-- V-SPLIT rows. -/
theorem test_splitDigits :
    splitDigits 79 = (7, 9) ∧ splitDigits 70 = (7, 0) ∧ splitDigits 9 = (0, 9) ∧ splitDigits 10 = (1, 0) := by
  decide

/-! ### Wire op-codes: the byte due moves on (R86: which byte of a frame each is) -/

theorem test_clear : onNext id (exec .clear (writingAt .fineDue 0x00 0xC0)) = some (writingAt .answerDue 0x00 0xC0) := by
  decide
theorem test_muteOn : onNext id (exec .muteOn (writingAt .fineDue 0x00 0xF9)) = some (writingAt .answerDue 0x00 0xF9) := by
  decide
theorem test_muteOff : onNext id (exec .muteOff (writingAt .fineDue 0x00 0xF8)) = some (writingAt .answerDue 0x00 0xF8) := by
  decide
theorem test_master10db :
    onNext id (exec (.master10db 7) (writingAt .coarseDue 0xD7 0xE9)) = some (writingAt .fineDue 0xD7 0xE9) := by
  decide
theorem test_master1db :
    onNext id (exec (.master1db 9) (writingAt .fineDue 0xD7 0xE9)) = some (writingAt .answerDue 0xD7 0xE9) := by
  decide
theorem test_ch1x10db :
    onNext id (exec (.ch1x10db 7) (writingAt .coarseDue 0x87 0x99)) = some (writingAt .fineDue 0x87 0x99) := by
  decide
theorem test_ch2x10db :
    onNext id (exec (.ch2x10db 4) (writingAt .coarseDue 0x44 0x57)) = some (writingAt .fineDue 0x44 0x57) := by
  decide
theorem test_ch3x10db :
    onNext id (exec (.ch3x10db 2) (writingAt .coarseDue 0x02 0x19)) = some (writingAt .fineDue 0x02 0x19) := by
  decide
theorem test_ch4x10db :
    onNext id (exec (.ch4x10db 0) (writingAt .coarseDue 0x20 0x39)) = some (writingAt .fineDue 0x20 0x39) := by
  decide
theorem test_ch5x10db :
    onNext id (exec (.ch5x10db 2) (writingAt .coarseDue 0x62 0x79)) = some (writingAt .fineDue 0x62 0x79) := by
  decide
theorem test_ch6x10db :
    onNext id (exec (.ch6x10db 3) (writingAt .coarseDue 0xA3 0xB9)) = some (writingAt .fineDue 0xA3 0xB9) := by
  decide
theorem test_ch1x1db :
    onNext id (exec (.ch1x1db 8) (writingAt .fineDue 0x87 0x98)) = some (writingAt .answerDue 0x87 0x98) := by
  decide
theorem test_ch2x1db :
    onNext id (exec (.ch2x1db 7) (writingAt .fineDue 0x44 0x57)) = some (writingAt .answerDue 0x44 0x57) := by
  decide
theorem test_ch3x1db :
    onNext id (exec (.ch3x1db 9) (writingAt .fineDue 0x02 0x19)) = some (writingAt .answerDue 0x02 0x19) := by
  decide
theorem test_ch4x1db :
    onNext id (exec (.ch4x1db 9) (writingAt .fineDue 0x20 0x39)) = some (writingAt .answerDue 0x20 0x39) := by
  decide
theorem test_ch5x1db :
    onNext id (exec (.ch5x1db 9) (writingAt .fineDue 0x62 0x79)) = some (writingAt .answerDue 0x62 0x79) := by
  decide
theorem test_ch6x1db :
    onNext id (exec (.ch6x1db 0) (writingAt .fineDue 0xA4 0xB0)) = some (writingAt .answerDue 0xA4 0xB0) := by
  decide
/-- R53: byte 1 does not go before byte 0. -/
theorem test_order : refusal (exec .clear (writingAt .coarseDue 0x00 0xC0)) = some .byteNotDue := by decide

/-! ### Frames: the answer (V-INIT and V-MUTE; R251) -/

/-- INIT answered `T_NACK`: DeviceNotFoundError, still READY. -/
theorem test_fClear_nack : onNext seen (exec .fClear (answeredBy 0x00 0xC0 (sample 1 0)))
    = some (.ready, some 0x46, [.err .deviceNotFound], [.write 0x46 0x00 0xC0 .nack]) := by decide
/-- NEW answered `T_FAIL(d)`: no controller, and the detail unchanged. -/
theorem test_fClear_construction (d : Detail) :
    onNext seen (exec .fClear { answeredBy 0x00 0xC0 (sample 2 d) with ctor := true })
      = some (.off, none, [.err (.communication d)], [.write 0x46 0x00 0xC0 (.fail d)]) := rfl
theorem test_fMuteOn : onNext seen (exec .fMuteOn (answeredBy 0x00 0xF9 (sample 0 0)))
    = some (.ready, some 0x46, [.ok], [.write 0x46 0x00 0xF9 .ok]) := by decide
/-- R69: the reserved status 3 is a failure. -/
theorem test_fMuteOff (d : Detail) : onNext seen (exec .fMuteOff (answeredBy 0x00 0xF8 (sample 3 d)))
    = some (.ready, some 0x46, [.err (.communication d)], [.write 0x46 0x00 0xF8 (.fail d)]) := rfl
theorem test_fMaster : onNext seen (exec (.fMaster 7 9) (answeredBy 0xD7 0xE9 (sample 0 0)))
    = some (.ready, some 0x46, [.ok], [.write 0x46 0xD7 0xE9 .ok]) := by decide
theorem test_fCh1 : onNext seen (exec (.fCh1 1 5) (answeredBy 0x81 0x95 (sample 0 0)))
    = some (.ready, some 0x46, [.ok], [.write 0x46 0x81 0x95 .ok]) := by decide
theorem test_fCh2 : onNext seen (exec (.fCh2 6 9) (answeredBy 0x46 0x59 (sample 0 0)))
    = some (.ready, some 0x46, [.ok], [.write 0x46 0x46 0x59 .ok]) := by decide
theorem test_fCh3 : onNext seen (exec (.fCh3 0 0) (answeredBy 0x00 0x10 (sample 0 0)))
    = some (.ready, some 0x46, [.ok], [.write 0x46 0x00 0x10 .ok]) := by decide
theorem test_fCh4 : onNext seen (exec (.fCh4 0 9) (answeredBy 0x20 0x39 (sample 0 0)))
    = some (.ready, some 0x46, [.ok], [.write 0x46 0x20 0x39 .ok]) := by decide
theorem test_fCh5 : onNext seen (exec (.fCh5 2 9) (answeredBy 0x62 0x79 (sample 0 0)))
    = some (.ready, some 0x46, [.ok], [.write 0x46 0x62 0x79 .ok]) := by decide
theorem test_fCh6 : onNext seen (exec (.fCh6 3 9) (answeredBy 0xA3 0xB9 (sample 0 0)))
    = some (.ready, some 0x46, [.ok], [.write 0x46 0xA3 0xB9 .ok]) := by decide
/-- R219: a silent transport is waited for. -/
theorem test_frame_waits :
    onNext id (exec .fClear (writingAt .answerDue 0x00 0xC0)) = some (writingAt .answerDue 0x00 0xC0) := by
  decide

/-! ### Steps -/

/-- P6: `SET_MASTER 50` right after reset. -/
theorem test_step_refused : refusal (step (State.reset.withFetchWord 16 0x4032)) = some .notAccepted := by decide
/-- V-NEW: 0x0188 right after reset. -/
theorem test_step_new : onNext (fun s => (s.phase, s.addr7)) (step (State.reset.withFetchWord 16 0x0188))
    = some (.settle, some 0x44) := by decide
/-- A settle delay in its last clock. -/
def lastTick : State := { readyAt 0x44 with phase := .settle, timer := 1 }
theorem lastTick_settleTick : lastTick.nextClock.settleTick =
    { lastTick with phase := .write, timer := 0, txReq := true, trace := [.delay 200],
                    latches := { resetLatches with coarse := 0x00, fine := 0xC0 } } := by
  have h : lastTick.nextClock.timer.toNat ≤ 1 := Nat.mod_le 1 _
  rcases settleTick_cases lastTick.nextClock with ⟨_, e⟩ | ⟨h1, _⟩
  · rw [e]; rfl
  · exact absurd h1 (Nat.not_lt.mpr h)
/-- The end of the settle delay (R24, R161). -/
theorem test_step_settle :
    step lastTick = .next { lastTick with
      phase := .write, timer := 0, txReq := true, trace := [.delay 200],
      latches := { resetLatches with coarse := 0x00, fine := 0xC0 } } :=
  congrArg Host.Outcome.next lastTick_settleTick
/-- R281: reset ends the settle delay and sends nothing. -/
theorem test_step_reset :
    onNext seen (step { lastTick with rstIn := [true] })
      = some (.off, none, [], []) := by decide
/-- A placed byte and a placed frame are what the next step runs. -/
theorem test_step_placed :
    onNext (fun s => s.stage) (step (State.reset.withFetchWord 8 0xD7)) = some .fineDue ∧
    onNext (fun s => s.stage) (step (State.reset.withFetchWord 16 0xD7E9)) = some .answerDue := by decide
/-- The trace checker reads P3's trace of a failed construction and a second one (R285). -/
theorem test_trace_checker :
    traceState [.delay 200, .write 0x46 0x00 0xC0 (.fail 5), .delay 200, .write 0x46 0x00 0xC0 .ok,
                .write 0x46 0x62 0x79 .ok] = .booted ∧
    traceState [.write 0x46 0x62 0x79 .ok] = .violated ∧
    traceState [.delay 200, .write 0x45 0x00 0xC0 .ok] = .violated := by decide

/-! ### Witnesses: for every obligation with hypotheses, values that meet all of them -/

theorem witness_NewStoresTheSevenBitAddress :
    State.reset.phase = .off ∧
    ((0x8C, 0x46) : Int × Addr7) ∈ ([(0x80, 0x40), (0x84, 0x42), (0x88, 0x44), (0x8C, 0x46)] : List (Int × Addr7)) ∧
    ((0x80, 0x40) : Int × Addr7) ∈ ([(0x80, 0x40), (0x84, 0x42), (0x88, 0x44), (0x8C, 0x46)] : List (Int × Addr7)) := by
  decide
theorem witness_NewReportsConfigurationErrors :
    State.reset.phase = .off ∧ (0x8B : Int) ∉ ([0x8C, 0x88, 0x84, 0x80] : List Int) ∧
    (0x46 : Int) ∉ ([0x8C, 0x88, 0x84, 0x80] : List Int) := by decide
theorem witness_InitEntersTheSettleDelay : (readyAt 0x46).phase = .ready := by decide
theorem witness_SetMasterSendsTheMasterPair :
    (readyAt 0x46).phase = .ready ∧ ((0 : Int) ≤ 0 ∧ (0 : Int) ≤ 100) ∧ ((0 : Int) ≤ 100 ∧ (100 : Int) ≤ 100) := by
  decide
theorem witness_SetMasterRejectsOutOfRange :
    (readyAt 0x46).phase = .ready ∧ ((0 : Int) ≤ 100 ∧ (100 : Int) ≤ 100) ∧
    ((-1 : Int) < 0 ∨ (100 : Int) < -1) ∧ ((101 : Int) < 0 ∨ (100 : Int) < 101) := by decide
theorem witness_SetChannelSendsTheChannelPair :
    (readyAt 0x46).phase = .ready ∧ (0 : Int) ≤ 100 ∧ (100 : Int) ≤ 100 ∧
    ((5, 0xA0, 0xB0) : Int × Byte × Byte) ∈
      ([(0, 0x80, 0x90), (1, 0x40, 0x50), (2, 0x00, 0x10), (3, 0x20, 0x30), (4, 0x60, 0x70),
        (5, 0xA0, 0xB0)] : List (Int × Byte × Byte)) := by decide
theorem witness_SetChannelRejectsOutOfRange :
    (readyAt 0x46).phase = .ready ∧ ((-1 : Int) < 0 ∨ (100 : Int) < -1) ∧
    ((0 : Int) ≤ 100 ∧ (100 : Int) ≤ 100 ∧ ((6 : Int) < 0 ∨ (5 : Int) < 6)) ∧
    ((0 : Int) ≤ 0 ∧ (0 : Int) ≤ 100 ∧ ((-1 : Int) < 0 ∨ (5 : Int) < -1)) ∧
    ((0 : Int) ≤ 5 ∧ (5 : Int) ≤ 5) := by decide
theorem witness_SetMuteSendsOneOfTwoFrames : (readyAt 0x46).phase = .ready := by decide
theorem witness_CommandsAreRefusedInOtherPhases :
    (readyAt 0x46).phase ≠ .off ∧ State.reset.phase ≠ .ready ∧
    (writingAt .coarseDue 0 0xC0).phase ≠ .off ∧ (writingAt .coarseDue 0 0xC0).phase ≠ .ready := by decide
theorem witness_MapVolumeClampsFlipsRescales :
    ((0 : Int) ≤ 100 ∧ (100 : Int) ≤ 100) ∧ (-1 : Int) < 0 ∧ (100 : Int) < 101 := by decide
theorem witness_AttenuationProperties :
    ((4 : Int) ≤ 5 ∧ mapVolume 4 0 100 0 79 = .ok 75 ∧ mapVolume 5 0 100 0 79 = .ok 75) ∧
    ((1 : Int) ≤ 1 ∧ (1 : Int) ≤ 100) ∧ ((0 : Int) ≤ 79 ∧ (79 : Int) ≤ 79) ∧ ((0 : Int) ≤ 0 ∧ (0 : Int) ≤ 100) ∧
    (-1 : Int) < 0 ∧ (100 : Int) < 101 := by decide
theorem witness_SplitGivesDecimalDigits : (0 : Int) ≤ 79 ∧ (79 : Int) ≤ 79 := by decide

/-- Each clause at a step of its range: a payload byte 0 of each target. -/
theorem witness_TenDecibelOpcodesAreByteZero :
    (writingAt .coarseDue 0xD7 0xE9).phase = .write ∧ (writingAt .coarseDue 0xD7 0xE9).stage = .coarseDue ∧
    (7 : Nibble) ≤ 7 ∧
    (writingAt .coarseDue 0xD7 0xE9).latches.coarse = 0xD0 ||| (7 : Nibble).setWidth 8 ∧
    (writingAt .coarseDue 0x87 0x99).latches.coarse = 0x80 ||| (7 : Nibble).setWidth 8 ∧
    (writingAt .coarseDue 0x47 0x59).latches.coarse = 0x40 ||| (7 : Nibble).setWidth 8 ∧
    (writingAt .coarseDue 0x07 0x19).latches.coarse = 0x00 ||| (7 : Nibble).setWidth 8 ∧
    (writingAt .coarseDue 0x27 0x39).latches.coarse = 0x20 ||| (7 : Nibble).setWidth 8 ∧
    (writingAt .coarseDue 0x67 0x79).latches.coarse = 0x60 ||| (7 : Nibble).setWidth 8 ∧
    (writingAt .coarseDue 0xA7 0xB9).latches.coarse = 0xA0 ||| (7 : Nibble).setWidth 8 := by decide
theorem witness_OneDecibelOpcodesAreByteOne :
    (writingAt .fineDue 0xD7 0xE9).phase = .write ∧ (writingAt .fineDue 0xD7 0xE9).stage = .fineDue ∧
    (9 : Nibble) ≤ 9 ∧
    (writingAt .fineDue 0xD7 0xE9).latches.fine = 0xE0 ||| (9 : Nibble).setWidth 8 ∧
    (writingAt .fineDue 0x87 0x99).latches.fine = 0x90 ||| (9 : Nibble).setWidth 8 ∧
    (writingAt .fineDue 0x47 0x59).latches.fine = 0x50 ||| (9 : Nibble).setWidth 8 ∧
    (writingAt .fineDue 0x07 0x19).latches.fine = 0x10 ||| (9 : Nibble).setWidth 8 ∧
    (writingAt .fineDue 0x27 0x39).latches.fine = 0x30 ||| (9 : Nibble).setWidth 8 ∧
    (writingAt .fineDue 0x67 0x79).latches.fine = 0x70 ||| (9 : Nibble).setWidth 8 ∧
    (writingAt .fineDue 0xA7 0xB9).latches.fine = 0xB0 ||| (9 : Nibble).setWidth 8 := by decide
theorem witness_ControlCodesAreByteOne :
    (writingAt .fineDue 0 0xC0).phase = .write ∧ (writingAt .fineDue 0 0xC0).stage = .fineDue ∧
    (writingAt .fineDue 0 0xC0).latches.fine = 0xC0 ∧ (writingAt .fineDue 0 0xF9).latches.fine = 0xF9 ∧
    (writingAt .fineDue 0 0xF8).latches.fine = 0xF8 := by decide
theorem witness_OnlyTheByteDueIsHandedOver :
    Instr.kind (.master10db 7) = .wireByte ∧
    exec (.master10db 7) (writingAt .coarseDue 0xD7 0xE9) = .next (writingAt .fineDue 0xD7 0xE9) ∧
    Instr.kind .clear = .wireByte ∧
    exec .clear (writingAt .fineDue 0x00 0xC0) = .next (writingAt .answerDue 0x00 0xC0) :=
  ⟨rfl, rfl, rfl, rfl⟩
theorem witness_NeverEmittedStepsAreRefused :
    Instr.kind (.master10db 8) ≠ .command ∧ Instr.wellFormed (.master10db 8) = false ∧
    Instr.kind (.ch1x1db 10) ≠ .command ∧ Instr.wellFormed (.ch1x1db 10) = false ∧
    Instr.kind (.fCh6 0 15) ≠ .command ∧ Instr.wellFormed (.fCh6 0 15) = false := by decide

/-- Each clause: an answered transaction of each target, at the largest digits. -/
theorem witness_AnsweredFramesEndTheCommand :
    let s := answeredBy 0xD7 0xE9 (sample 1 0)
    s.phase = .write ∧ s.stage = .answerDue ∧ s.addr7 = some 0x46 ∧ s.txIn = sample 1 0 :: [] ∧
    (sample 1 0).done = true ∧ (9 : Nibble) ≤ 9 ∧
    s.latches.coarse = 0xD0 ||| (7 : BitVec 3).setWidth 8 ∧ s.latches.fine = 0xE0 ||| (9 : Nibble).setWidth 8 ∧
    (answeredBy 0x00 0xC0 (sample 0 0)).latches.coarse = 0x00 ∧
    (answeredBy 0x00 0xC0 (sample 0 0)).latches.fine = 0xC0 ∧
    (answeredBy 0x00 0xF9 (sample 0 0)).latches.fine = 0xF9 ∧
    (answeredBy 0x00 0xF8 (sample 0 0)).latches.fine = 0xF8 := by decide
theorem witness_AnsweredFrames_channels :
    (answeredBy 0x87 0x99 (sample 0 0)).latches.coarse = 0x80 ||| (7 : BitVec 3).setWidth 8 ∧
    (answeredBy 0x87 0x99 (sample 0 0)).latches.fine = 0x90 ||| (9 : Nibble).setWidth 8 ∧
    (answeredBy 0x47 0x59 (sample 0 0)).latches.coarse = 0x40 ||| (7 : BitVec 3).setWidth 8 ∧
    (answeredBy 0x47 0x59 (sample 0 0)).latches.fine = 0x50 ||| (9 : Nibble).setWidth 8 ∧
    (answeredBy 0x07 0x19 (sample 0 0)).latches.coarse = 0x00 ||| (7 : BitVec 3).setWidth 8 ∧
    (answeredBy 0x07 0x19 (sample 0 0)).latches.fine = 0x10 ||| (9 : Nibble).setWidth 8 ∧
    (answeredBy 0x27 0x39 (sample 0 0)).latches.coarse = 0x20 ||| (7 : BitVec 3).setWidth 8 ∧
    (answeredBy 0x27 0x39 (sample 0 0)).latches.fine = 0x30 ||| (9 : Nibble).setWidth 8 ∧
    (answeredBy 0x67 0x79 (sample 0 0)).latches.coarse = 0x60 ||| (7 : BitVec 3).setWidth 8 ∧
    (answeredBy 0x67 0x79 (sample 0 0)).latches.fine = 0x70 ||| (9 : Nibble).setWidth 8 ∧
    (answeredBy 0xA7 0xB9 (sample 0 0)).latches.coarse = 0xA0 ||| (7 : BitVec 3).setWidth 8 ∧
    (answeredBy 0xA7 0xB9 (sample 0 0)).latches.fine = 0xB0 ||| (9 : Nibble).setWidth 8 := by decide
theorem witness_UnansweredFramesWait :
    let s := writingAt .answerDue 0x00 0xC0
    let x : TxSample := { done := false, status := 0, detail := 0 }
    s.phase = .write ∧ s.stage = .answerDue ∧ s.addr7 = some 0x46 ∧ Instr.wellFormed .fClear = true ∧
    encode .fClear = .frame s.latches.coarse s.latches.fine ∧ s.txIn = [] ∧
    (answeredBy 0x00 0xC0 x).txIn = x :: [] ∧ x.done = false := by decide
theorem witness_FramesStopWithoutATransaction :
    Instr.wellFormed .fClear = true ∧ encode .fClear = .frame 0x00 0xC0 ∧
    ¬ ((writingAt .answerDue 0 0xF8).phase = .write ∧ (writingAt .answerDue 0 0xF8).stage = .answerDue ∧
       (writingAt .answerDue 0 0xF8).latches.coarse = 0x00 ∧ (writingAt .answerDue 0 0xF8).latches.fine = 0xC0) ∧
    exec .fClear { writingAt .answerDue 0 0xC0 with addr7 := none } = .fault .addr7Absent :=
  ⟨rfl, rfl, by decide, rfl⟩
theorem witness_TransportAnswersAreTranslated :
    (sample 0 7).status = 0 ∧ (sample 1 7).status = 1 ∧ (sample 2 7).status = 2 ∧ (sample 3 7).status = 3 := by
  decide
/-- At each stage: silence by an exhausted list, and by samples without an answer. -/
theorem witness_ASilentTransportHangs :
    let x : TxSample := { done := false, status := 1, detail := 0 }
    let s := writingAt .answerDue 0xD7 0xE9
    let t : State := { writingAt .coarseDue 0x00 0xC0 with txIn := [x, x], rstIn := [false] }
    (s.phase = .write ∧ s.addr7 = some 0x46 ∧ frameEmitted s.latches.coarse s.latches.fine = true ∧
      (∀ y ∈ s.txIn, y.done = false) ∧ noReset s) ∧
    (t.phase = .write ∧ t.stage = .coarseDue ∧ t.addr7 = some 0x46 ∧
      frameEmitted t.latches.coarse t.latches.fine = true ∧
      (∀ y ∈ t.txIn, y.done = false) ∧ noReset t) := by
  refine ⟨⟨rfl, rfl, by decide, ?_, ?_⟩, rfl, rfl, rfl, by decide, ?_, ?_⟩
  · intro y hy; cases hy
  · intro b hb; cases hb
  · intro y hy
    rcases List.mem_cons.mp hy with rfl | hy
    · rfl
    · rw [List.mem_singleton.mp hy]
  · intro b hb; exact List.mem_singleton.mp hb
theorem witness_SettleLastsTimerSteps :
    let s : State := { readyAt 0x44 with phase := .settle, timer := Config.settleLoad, rstIn := [false] }
    s.phase = .settle ∧ 1 ≤ s.timer.toNat ∧ noReset s ∧ 0 < s.timer.toNat := by
  have h : 0 < Config.settleLoad.toNat := by
    rw [Config.settleLoad_toNat]
    exact Config.settleTicks_pos
  exact ⟨rfl, h, fun b hb => List.mem_singleton.mp hb, h⟩
theorem witness_ResetIsTheWayBackToOff :
    ({ readyAt 0x44 with rstIn := [true] } : State).rstIn = true :: [] ∧ (readyAt 0x44).phase ≠ .write ∧
    ({ writingAt .fineDue 0 0xC0 with rstIn := [true] } : State).rstIn = true :: [] ∧
    (writingAt .fineDue 0 0xC0).phase = .write ∧
    onNext State.phase (step { readyAt 0x44 with rstIn := [true] }) = some .off := by decide
theorem witness_StepRunsTheDecodedInstruction :
    let s : State := { State.reset with cmdIn := [0x0188] }
    s.resetAsserted = false ∧ s.phase = .off ∧ s.cmdIn = 0x0188 :: [] ∧
    decodeCommand 0x0188 = .ok (.new 0x88 true) ∧
    (writingAt .coarseDue 0xD7 0xE9).resetAsserted = false ∧
    decodeWire (writingAt .coarseDue 0xD7 0xE9).latches.coarse = .ok (.master10db 7) ∧
    decodeWire (writingAt .fineDue 0xD7 0xE9).latches.fine = .ok (.master1db 9) ∧
    decodeFrame (writingAt .answerDue 0xD7 0xE9).latches.coarse (writingAt .answerDue 0xD7 0xE9).latches.fine
      = .ok (.fMaster 7 9) := by decide
theorem witness_TheBlockIdlesWithoutACommand :
    State.reset.resetAsserted = false ∧ State.reset.phase = .off ∧ State.reset.cmdIn = [] ∧
    (readyAt 0x44).phase = .ready ∧ (readyAt 0x44).cmdIn = [] := by decide
theorem witness_ReservedCommandWordsHaveNoReading :
    let s : State := { readyAt 0x44 with cmdIn := [0x2001] }
    s.resetAsserted = false ∧ s.phase = .ready ∧ s.cmdIn = 0x2001 :: [] ∧
    decodeCommand 0x2001 = .error .mustBeZero := by decide
theorem witness_ABusyBlockTakesNoCommand :
    let s : State := { writingAt .coarseDue 0x00 0xC0 with cmdIn := [0x8001] }
    step s = .next { s with stage := .fineDue } ∧ s.cmdReady = false := ⟨rfl, rfl⟩
/-- A step from each phase. -/
theorem witness_PhaseMovesAlongTheTable :
    (∃ s', step State.reset = .next s' ∧ State.reset.resetAsserted = false ∧ State.reset.phase = .off) ∧
    (∃ s', step lastTick = .next s' ∧ lastTick.phase = .settle ∧ s'.phase = .write) ∧
    (∃ s', step (readyAt 0x44) = .next s' ∧ (readyAt 0x44).phase = .ready) ∧
    (∃ s', step (writingAt .coarseDue 0x00 0xC0) = .next s' ∧ (writingAt .coarseDue 0x00 0xC0).phase = .write) :=
  ⟨⟨_, rfl, rfl, rfl⟩, ⟨_, test_step_settle, rfl, rfl⟩, ⟨_, rfl, rfl⟩, ⟨_, rfl, rfl⟩⟩
theorem witness_AddressIsImmutableAfterConstruction :
    ∃ s', step (writingAt .coarseDue 0x00 0xC0) = .next s' ∧ (writingAt .coarseDue 0x00 0xC0).phase ≠ .off ∧
      s'.phase ≠ .off := ⟨_, rfl, by decide, by decide⟩
theorem witness_AStepAppendsAtMostOneEvent :
    (∃ s', step lastTick = .next s' ∧ s'.trace = [.delay 200]) ∧
    (∃ s', step (answeredBy 0x00 0xF9 (sample 0 0)) = .next s' ∧ s'.trace = [.write 0x46 0x00 0xF9 .ok]) :=
  ⟨⟨_, test_step_settle, rfl⟩, ⟨_, rfl, rfl⟩⟩
theorem witness_TransportPortIsStable :
    ∃ s', step (writingAt .coarseDue 0x00 0xC0) = .next s' ∧ (writingAt .coarseDue 0x00 0xC0).phase = .write ∧
      s'.phase = .write := ⟨_, rfl, rfl, rfl⟩
theorem witness_DecodeInvertsEncode :
    Instr.wellFormed (.setChannel (-8) (-128)) = true ∧ Instr.wellFormed (.fCh6 7 9) = true ∧
    Instr.wellFormed (.ch6x1db 9) = true := by decide
theorem witness_EncodeInvertsDecode :
    decode (.command 0x68FF) = .ok (.setChannel (-8) (-1)) ∧ decode (.wire 0xDF) = .ok (.master10db 15) ∧
    decode (.frame 0xA7 0xBF) = .ok (.fCh6 7 15) := by decide
theorem witness_StepKeepsLegal : Legal State.reset ∧ step State.reset = .next State.reset := by
  refine ⟨⟨⟨rfl, rfl, rfl⟩, .inl rfl, ⟨fun h => ?_, fun r h => ?_⟩, fun _ => rfl⟩, rfl⟩
  · cases h
  · cases h
/-- A legal state on the way through a transaction, and its next step. -/
theorem witness_StepKeepsLegal_busy :
    ∃ s s', Legal s ∧ s.phase = .write ∧ step s = .next s' := by
  refine ⟨{ answeredBy 0x00 0xC0 (sample 0 0) with ctor := true, trace := [.delay 200] }, _, ⟨⟨rfl, rfl, rfl, ?_⟩, ?_,
    ⟨fun h => ?_, fun r h => ?_⟩, fun h => absurd rfl h⟩, rfl, rfl⟩
  · intro _; decide
  · exact .inr ⟨rfl, rfl⟩
  · cases h
  · cases h
/-- The reset state, and a state in which a second instance begins: OFF again, with a booted trace before it. -/
theorem witness_NoRunViolatesTheTraceOrder :
    let s : State := { State.reset with trace := [.delay 200, .write 0x46 0x00 0xC0 .ok] }
    (Legal State.reset ∧ Host.Core.run core 2 State.reset = .next State.reset) ∧
    (Legal s ∧ s.phase = .off ∧ Host.Core.run core 2 s = .next s) := by
  refine ⟨⟨witness_StepKeepsLegal.1, rfl⟩, ⟨⟨rfl, rfl, rfl⟩, .inr (by decide), ⟨fun h => ?_, fun r h => ?_⟩,
    fun _ => rfl⟩, rfl, rfl⟩
  · cases h
  · cases h
theorem witness_StepKeepsAnswersAsResults :
    answersAreResults State.reset ∧ ∃ s', step (answeredBy 0x00 0xF9 (sample 0 0)) = .next s' ∧
      answersAreResults (answeredBy 0x00 0xF9 (sample 0 0)) := ⟨rfl, _, rfl, rfl⟩
/-- Two states that differ in a dead latch. -/
theorem witness_LatchesCarryNothing :
    alikeButLatches (readyAt 0x44)
      { readyAt 0x44 with latches := { resetLatches with clamped := 5, fine := 0xE9 }, draws := 3 } ∧
    alikeButLatches (writingAt .fineDue 0x00 0xC0)
      { writingAt .fineDue 0x00 0xC0 with latches := { resetLatches with prod := 7, fine := 0xC0 } } :=
  ⟨⟨rfl, fun h => by cases h⟩, ⟨rfl, fun _ => ⟨rfl, rfl⟩⟩⟩
/-- A legal state, and each of the three refusals it can meet. -/
theorem witness_LegalStatesStopOnlyForTheHost :
    Legal State.reset ∧ step { State.reset with cmdIn := [0x2000] } = .refused .notAccepted ∧
    step { State.reset with cmdIn := [0xA000] } = .refused .reservedCommand ∧
    step { writingAt .coarseDue 0x00 0xC0 with rstIn := [true] } = .refused .resetDuringWrite :=
  ⟨witness_StepKeepsLegal.1, rfl, rfl, rfl⟩
theorem witness_EachCommandHasItsResults :
    (runCommand (.setMute true) (.fail 9) (readyAt 0x44).controller).map (fun out => out.result)
      = some (.err (.communication 9)) ∧
    (runCommand (.setChannel 6 101) .ok (readyAt 0x44).controller).map (fun out => out.result)
      = some (.err (.validation .volume)) := ⟨rfl, rfl⟩
theorem witness_PortLayerRefinesCommandLayer :
    let s : State := { readyAt 0x44 with txIn := [sample 0 0], rstIn := [false] }
    s.ctor = false ∧ noReset s ∧ s.txIn = sample 0 0 :: [] ∧ (sample 0 0).done = true ∧
    runCommand (.setMaster 75) (sample 0 0).answer s.controller
      = some { controller := { phase := .ready, ctor := false, addr7 := some 0x44 }, result := .ok,
               events := [.write 0x44 0xD1 0xE9 .ok] } ∧
    runCommand (.new 0x88 true) (sample 1 0).answer State.reset.controller
      = some { controller := { phase := .off, ctor := false, addr7 := none }, result := .err .deviceNotFound,
               events := [.delay 200, .write 0x44 0x00 0xC0 .nack] } :=
  ⟨rfl, fun _ hb => List.mem_singleton.mp hb, rfl, rfl, rfl, rfl⟩

end Sys2Proof.Tests
end

section
/-! PROOFS. What bits decode to, and what each kind of instruction means: a lemma a kind. -/

namespace Sys2Proof.Proofs

open Sys2Proof.Machine Sys2Proof.Safety

/-! ### What bits decode to -/

/-- What a wire byte decodes to encodes to that byte, over all 256 bytes. -/
theorem decodeWire_encodings :
    ∀ b : Byte, ((decodeWire b).toOption.map encode).getD (.wire b) = .wire b := by decide +kernel

theorem encode_of_decodeWire {b : Byte} {i : Instr} (h : decodeWire b = .ok i) : encode i = .wire b := by
  have hb := decodeWire_encodings b
  rw [h] at hb
  exact hb

/-- A frame of shape V read by its op-code bits is put together again from its two digits. -/
theorem volumeFrame_fields {b0 b1 c f : Byte} (h0 : b0 &&& 0xF8 = c) (h1 : b1 &&& 0xF0 = f) :
    volumeFrame c f (fieldTens b0) (fieldStep b1) = .frame b0 b1 := by
  subst h0 h1
  exact congrArg₂ Encoded.frame (byte_tens b0) (byte_step b1)

theorem encode_of_decodeFrame {b0 b1 : Byte} {i : Instr} (h : decodeFrame b0 b1 = .ok i) :
    encode i = .frame b0 b1 := by
  unfold decodeFrame at h
  split_ifs at h with hc hc hc hv hv hv hv hv hv hv <;> cases h
  iterate 3 (obtain ⟨rfl, rfl⟩ := hc; rfl)
  all_goals exact volumeFrame_fields hv.1 hv.2

/-- An emitted byte is the encoding of a well-formed op-code. -/
theorem byteEmitted_eq_true {b : Byte} (h : byteEmitted b = true) :
    ∃ i, decodeWire b = .ok i ∧ i.wellFormed = true := by
  unfold byteEmitted at h
  split at h
  · next i hd => exact ⟨i, hd, h⟩
  · cases h

/-- An emitted frame is the encoding of a well-formed one. -/
theorem frameEmitted_eq_true {b0 b1 : Byte} (h : frameEmitted b0 b1 = true) :
    ∃ i, decodeFrame b0 b1 = .ok i ∧ i.wellFormed = true := by
  unfold frameEmitted at h
  split at h
  · next i hd => exact ⟨i, hd, h⟩
  · cases h

/-- The op-codes of the seven targets that stand first in a payload (R86). -/
def coarseBases : List Byte := Config.masterCoarseBase :: List.ofFn Config.chCoarseBase

/-- The op-codes of the seven targets that stand second (R86). -/
def fineBases : List Byte := Config.masterFineBase :: List.ofFn Config.chFineBase

/-- A byte with the op-code bits and a tens digit of one target stands first in a payload (R82, R86). -/
theorem coarseByte_emitted :
    ∀ b : Byte, b &&& 0xF8 ∈ coarseBases →
      byteEmitted b = true ∧ bytePosition b = .coarseDue := by decide +kernel

/-- A byte with the op-code bits and a ones digit of one target stands second (R82, R86). -/
theorem fineByte_emitted :
    ∀ b : Byte, b &&& 0xF0 ∈ fineBases → fieldStep b ≤ 9 →
      byteEmitted b = true ∧ bytePosition b = .fineDue := by decide +kernel

/-- The two bytes of an emitted frame are emitted op-codes, each in its place (R86). -/
theorem bytes_of_frameEmitted {b0 b1 : Byte} (h : frameEmitted b0 b1 = true) :
    (byteEmitted b0 = true ∧ bytePosition b0 = .coarseDue) ∧
    (byteEmitted b1 = true ∧ bytePosition b1 = .fineDue) := by
  obtain ⟨i, hd, hw⟩ := frameEmitted_eq_true h
  unfold decodeFrame at hd
  split_ifs at hd with hc hc hc hv hv hv hv hv hv hv <;> cases hd
  iterate 3 (obtain ⟨rfl, rfl⟩ := hc; decide)
  all_goals
    obtain ⟨h0, h1⟩ := hv
    exact ⟨coarseByte_emitted b0 (by rw [h0]; decide),
      fineByte_emitted b1 (by rw [h1]; decide) (of_decide_eq_true hw)⟩

/-! ### The meanings of the op-codes and the frames, by their encodings -/

/-- Handing over the byte `b`, which the sequencer emits: byte 0 or byte 1 of the payload by the place R86 gives
it, when it is the byte due. `exec_wireByte` says that this is what every op-code means. -/
def handByte (b : Byte) (s : State) : Machine.Outcome :=
  match bytePosition b with
  | .coarseDue =>
    if s.phase = .write ∧ s.stage = .coarseDue ∧ s.latches.coarse = b then .next { s with stage := .fineDue }
    else .refused .byteNotDue
  | _ => handFineByte b s

theorem handByte_coarse {b : Byte} (hb : bytePosition b = .coarseDue) (s : State) :
    handByte b s =
      if s.phase = .write ∧ s.stage = .coarseDue ∧ s.latches.coarse = b then .next { s with stage := .fineDue }
      else .refused .byteNotDue := by
  unfold handByte; rw [hb]

theorem handByte_fine {b : Byte} (hb : bytePosition b = .fineDue) (s : State) :
    handByte b s = handFineByte b s := by
  unfold handByte; rw [hb]

/-- The 10 dB op-codes, whatever their step, stand first. -/
theorem bytePosition_tens :
    ∀ base ∈ coarseBases, ∀ k : Nibble,
      bytePosition (stepByte base k) = .coarseDue := by decide +kernel

/-- The 1 dB op-codes, whatever their step, stand second. -/
theorem bytePosition_ones :
    ∀ base ∈ fineBases, ∀ k : Nibble,
      bytePosition (stepByte base k) = .fineDue := by decide +kernel

/-- A test that refuses the steps above `m` accepts those up to `m`. -/
theorem ite_step_above {α : Type} (m k : Nibble) (x y : α) :
    (if m < k then x else y) = if decide (k ≤ m) then y else x := by
  by_cases h : k ≤ m
  · rw [if_neg (BitVec.not_lt.mpr h), if_pos (decide_eq_true h)]
  · rw [if_pos (BitVec.not_le.mp h), if_neg (by simpa using h)]

theorem handCoarse_eq_handByte (base : Byte) (hb : base ∈ coarseBases) (k : Nibble) (s : State) :
    handCoarse base k s = if tensEmitted k then handByte (stepByte base k) s else .refused .neverEmitted := by
  rw [handByte_coarse (bytePosition_tens base hb k)]
  exact ite_step_above 7 k _ _

theorem handFine_eq_handByte (base : Byte) (hb : base ∈ fineBases) (k : Nibble) (s : State) :
    handFine base k s = if onesEmitted k then handByte (stepByte base k) s else .refused .neverEmitted := by
  rw [handByte_fine (bytePosition_ones base hb k)]
  exact ite_step_above 9 k _ _

theorem volumeFrameWrite_eq (pair : RegisterPair) (t : BitVec 3) (o : Nibble) (s : State) :
    volumeFrameWrite pair t o s =
      if onesEmitted o then frameWrite (pair.coarseBase ||| t.setWidth 8) (stepByte pair.fineBase o) s
      else .refused .neverEmitted := ite_step_above 9 o _ _

/-- What every wire op-code means: a well-formed one hands its byte over, any other is never emitted. -/
theorem exec_wireByte {i : Instr} (hk : i.kind = .wireByte) :
    ∃ b, encode i = .wire b ∧
      ∀ s, exec i s = if i.wellFormed then handByte b s else .refused .neverEmitted := by
  cases i with
  | clear | muteOn | muteOff => exact ⟨_, rfl, fun _ => rfl⟩
  | master10db k | ch1x10db k | ch2x10db k | ch3x10db k | ch4x10db k | ch5x10db k | ch6x10db k =>
    exact ⟨_, rfl, handCoarse_eq_handByte _ (by decide) k⟩
  | master1db k | ch1x1db k | ch2x1db k | ch3x1db k | ch4x1db k | ch5x1db k | ch6x1db k =>
    exact ⟨_, rfl, handFine_eq_handByte _ (by decide) k⟩
  | _ => cases hk

/-- What every frame means: a well-formed one is the transaction of its two bytes, any other is never emitted. -/
theorem exec_frame {i : Instr} (hk : i.kind = .frame) :
    ∃ b0 b1, encode i = .frame b0 b1 ∧
      ∀ s, exec i s = if i.wellFormed then frameWrite b0 b1 s else .refused .neverEmitted := by
  cases i with
  | fClear | fMuteOn | fMuteOff => exact ⟨_, _, rfl, fun _ => rfl⟩
  | fMaster t o | fCh1 t o | fCh2 t o | fCh3 t o | fCh4 t o | fCh5 t o | fCh6 t o =>
    exact ⟨_, _, rfl, volumeFrameWrite_eq _ t o⟩
  | _ => cases hk

theorem handByte_eq_next {b : Byte} {s s' : State} (h : handByte b s = .next s') :
    s.phase = .write ∧
      ((s.stage = .coarseDue ∧ s.latches.coarse = b ∧ s' = { s with stage := .fineDue }) ∨
       (s.stage = .fineDue ∧ s.latches.fine = b ∧ s' = { s with stage := .answerDue })) := by
  unfold handByte at h
  split at h
  · split at h
    · next hc =>
      obtain ⟨hp, hs, hb⟩ := hc
      cases h
      exact ⟨hp, .inl ⟨hs, hb, rfl⟩⟩
    · cases h
  · obtain ⟨hp, hs, hb, he⟩ := handFineByte_eq_next h
    exact ⟨hp, .inr ⟨hs, hb, he⟩⟩

/-- A wire op-code that goes on moves the stage of phase WRITE and nothing else. -/
theorem exec_wireByte_eq_next {i : Instr} {s s' : State} (hk : i.kind = .wireByte)
    (h : exec i s = .next s') : s.phase = .write ∧ ∃ st, s' = { s with stage := st } := by
  obtain ⟨b, -, he⟩ := exec_wireByte hk
  rw [he] at h
  split at h
  · obtain ⟨hp, ⟨-, -, e⟩ | ⟨-, -, e⟩⟩ := handByte_eq_next h
    · exact ⟨hp, _, e⟩
    · exact ⟨hp, _, e⟩
  · cases h

/-- A frame that goes on is the payload in flight, waiting for its answer at the stored address. -/
theorem exec_frame_eq_next {i : Instr} {s s' : State} (hk : i.kind = .frame) (h : exec i s = .next s') :
    ∃ a, s.phase = .write ∧ s.stage = .answerDue ∧ s.addr7 = some a ∧
      s' = State.awaitAnswer a s.latches.coarse s.latches.fine s := by
  obtain ⟨b0, b1, -, he⟩ := exec_frame hk
  rw [he] at h
  split at h
  · obtain ⟨a, hp, hs, rfl, rfl, ha, e⟩ := frameWrite_eq_next h
    exact ⟨a, hp, hs, ha, e⟩
  · cases h

/-- An emitted byte decodes to an op-code that hands it over. -/
theorem exec_of_byteEmitted {b : Byte} (h : byteEmitted b = true) :
    ∃ i, decodeWire b = .ok i ∧ ∀ s, exec i s = handByte b s := by
  obtain ⟨i, hd, hw⟩ := byteEmitted_eq_true h
  obtain ⟨b', he, hx⟩ := exec_wireByte (decodeWire_kind hd)
  rw [encode_of_decodeWire hd] at he
  cases he
  exact ⟨i, hd, fun s => by rw [hx, if_pos hw]⟩

/-- An emitted frame decodes to one that is the transaction of its two bytes. -/
theorem exec_of_frameEmitted {b0 b1 : Byte} (h : frameEmitted b0 b1 = true) :
    ∃ i, decodeFrame b0 b1 = .ok i ∧ ∀ s, exec i s = frameWrite b0 b1 s := by
  obtain ⟨i, hd, hw⟩ := frameEmitted_eq_true h
  obtain ⟨c0, c1, he, hx⟩ := exec_frame (decodeFrame_kind hd)
  rw [encode_of_decodeFrame hd] at he
  cases he
  exact ⟨i, hd, fun s => by rw [hx, if_pos hw]⟩

/-! ### The meanings of the commands, an equation a case -/

theorem exec_new_refused {s : State} (hp : s.phase ≠ .off) (address : Int) (tp : Bool) :
    exec (.new address tp) s = .refused .notAccepted := by
  simp [exec, execNew, hp]

theorem exec_new_noTransport {s : State} (hp : s.phase = .off) (address : Int) :
    exec (.new address false) s = .next (State.endCommand (.err (.configuration .noTransport)) s) := by
  simp [exec, execNew, hp]

theorem exec_new_badAddress {s : State} (hp : s.phase = .off) {address : Int} (ha : address ∉ Config.addr8Set) :
    exec (.new address true) s = .next (State.endCommand (.err (.configuration .badAddress)) s) := by
  simp [exec, execNew, hp, ha]

theorem exec_new_accepted {s : State} (hp : s.phase = .off) {address : Int} (ha : address ∈ Config.addr8Set) :
    exec (.new address true) s =
      .next (State.enterSettle { s with addr7 := some (storedAddress address), ctor := true }) := by
  simp [exec, execNew, hp, ha]

theorem exec_init_refused {s : State} (hp : s.phase ≠ .ready) : exec .init s = .refused .notAccepted := by
  simp [exec, execInit, hp]

theorem exec_init_accepted {s : State} (hp : s.phase = .ready) :
    exec .init s = .next (State.enterSettle { s with ctor := false }) := by
  simp [exec, execInit, hp]

theorem exec_setMaster_refused {s : State} (hp : s.phase ≠ .ready) (v : Int) :
    exec (.setMaster v) s = .refused .notAccepted := by
  simp [exec, execSetMaster, hp]

theorem exec_setMaster_badVolume {s : State} (hp : s.phase = .ready) {v : Int} (hv : volumeInRange v = false) :
    exec (.setMaster v) s = .next (State.endCommand (.err (.validation .volume)) s) := by
  simp [exec, execSetMaster, hp, hv]

theorem exec_setMaster_accepted {s : State} (hp : s.phase = .ready) {v : Int} (hv : volumeInRange v = true) :
    exec (.setMaster v) s = volumeWrite masterPair v s := by
  simp [exec, execSetMaster, hp, hv]

theorem exec_setChannel_refused {s : State} (hp : s.phase ≠ .ready) (c v : Int) :
    exec (.setChannel c v) s = .refused .notAccepted := by
  simp [exec, execSetChannel, hp]

theorem exec_setChannel_badVolume {s : State} (hp : s.phase = .ready) (c : Int) {v : Int}
    (hv : volumeInRange v = false) :
    exec (.setChannel c v) s = .next (State.endCommand (.err (.validation .volume)) s) := by
  simp [exec, execSetChannel, hp, hv]

theorem exec_setChannel_badChannel {s : State} (hp : s.phase = .ready) {c v : Int} (hv : volumeInRange v = true)
    (hc : channelIndex c = none) :
    exec (.setChannel c v) s = .next (State.endCommand (.err (.validation .channel)) s) := by
  simp [exec, execSetChannel, hp, hv, hc]

theorem exec_setChannel_accepted {s : State} (hp : s.phase = .ready) {c v : Int} (hv : volumeInRange v = true)
    {ch : Fin 6} (hc : channelIndex c = some ch) :
    exec (.setChannel c v) s = volumeWrite (channelPair ch) v s := by
  simp [exec, execSetChannel, hp, hv, hc]

theorem exec_setMute_refused {s : State} (hp : s.phase ≠ .ready) (enabled : Bool) :
    exec (.setMute enabled) s = .refused .notAccepted := by
  simp [exec, execSetMute, hp]

theorem exec_setMute_accepted {s : State} (hp : s.phase = .ready) (enabled : Bool) :
    exec (.setMute enabled) s =
      .next (writing s { s.latches with coarse := 0x00, fine := if enabled then 0xF9 else 0xF8 }) :=
  if_pos hp

/-- A volume command's payload is written whatever the latches held. -/
theorem volumeWrite_eq_writing (pair : RegisterPair) (v : Int) (s : State) :
    volumeWrite pair v s = .next (writing s (volumeLatches pair v ((100 - clamp v 0 100) * 79 / 100))) :=
  volumeWrite_eq pair v s

/-- What the command `i` does in phase `p`, the same for every state in that phase: it is refused, it is rejected with
an operand error, NEW or INIT enters the settle delay, or it enters phase WRITE with a payload `[b0, b1]` in which the
latches before it have no part. -/
inductive CommandEffect (i : Instr) (p : Phase) : Prop
  | refused (h : ∀ s : State, s.phase = p → exec i s = .refused .notAccepted)
  | rejected (e : CommandError) (he : fromBus (.err e) = false)
      (h : ∀ s : State, s.phase = p → exec i s = .next (State.endCommand (.err e) s))
  | constructs (hp : p = .off) (a : Addr7)
      (h : ∀ s : State, s.phase = p →
        exec i s = .next (State.enterSettle { s with addr7 := some a, ctor := true }))
  | settles (hp : p = .ready)
      (h : ∀ s : State, s.phase = p → exec i s = .next (State.enterSettle { s with ctor := false }))
  | writes (hp : p = .ready) (b0 b1 : Byte) (f : Latches → Latches)
      (hf : ∀ l, (f l).coarse = b0 ∧ (f l).fine = b1)
      (h : ∀ s : State, s.phase = p → exec i s = .next (writing s (f s.latches)))

/-- A command that writes a volume in phase READY loads latches of its own. -/
theorem commandEffect_of_volumeWrite {i : Instr} {pair : RegisterPair} {v : Int}
    (h : ∀ s : State, s.phase = .ready → exec i s = volumeWrite pair v s) : CommandEffect i .ready :=
  .writes rfl _ _ (fun _ => volumeLatches pair v ((100 - clamp v 0 100) * 79 / 100)) (fun _ => ⟨rfl, rfl⟩)
    fun s hs => (h s hs).trans (volumeWrite_eq_writing pair v s)

theorem new_commandEffect (address : Int) (tp : Bool) (p : Phase) : CommandEffect (.new address tp) p := by
  by_cases hp : p = .off
  · subst hp
    cases tp with
    | false => exact .rejected _ rfl fun s h => exec_new_noTransport h address
    | true =>
      by_cases ha : address ∈ Config.addr8Set
      · exact .constructs rfl _ fun s h => exec_new_accepted h ha
      · exact .rejected _ rfl fun s h => exec_new_badAddress h ha
  · exact .refused fun s h => exec_new_refused (h ▸ hp) address tp

theorem init_commandEffect (p : Phase) : CommandEffect .init p := by
  by_cases hp : p = .ready
  · subst hp
    exact .settles rfl fun s h => exec_init_accepted h
  · exact .refused fun s h => exec_init_refused (h ▸ hp)

theorem setMaster_commandEffect (v : Int) (p : Phase) : CommandEffect (.setMaster v) p := by
  by_cases hp : p = .ready
  · subst hp
    cases hv : volumeInRange v with
    | false => exact .rejected _ rfl fun s h => exec_setMaster_badVolume h hv
    | true => exact commandEffect_of_volumeWrite fun s h => exec_setMaster_accepted h hv
  · exact .refused fun s h => exec_setMaster_refused (h ▸ hp) v

theorem setChannel_commandEffect (c v : Int) (p : Phase) : CommandEffect (.setChannel c v) p := by
  by_cases hp : p = .ready
  · subst hp
    cases hv : volumeInRange v with
    | false => exact .rejected _ rfl fun s h => exec_setChannel_badVolume h c hv
    | true =>
      cases hc : channelIndex c with
      | none => exact .rejected _ rfl fun s h => exec_setChannel_badChannel h hv hc
      | some ch => exact commandEffect_of_volumeWrite fun s h => exec_setChannel_accepted h hv hc
  · exact .refused fun s h => exec_setChannel_refused (h ▸ hp) c v

theorem setMute_commandEffect (enabled : Bool) (p : Phase) : CommandEffect (.setMute enabled) p := by
  by_cases hp : p = .ready
  · subst hp
    exact .writes rfl _ _ (fun l => { l with coarse := 0x00, fine := if enabled then 0xF9 else 0xF8 })
      (fun _ => ⟨rfl, rfl⟩) fun s h => exec_setMute_accepted h enabled
  · exact .refused fun s h => exec_setMute_refused (h ▸ hp) enabled

theorem commandEffect_of_kind {i : Instr} (hk : i.kind = .command) (p : Phase) : CommandEffect i p := by
  cases i with
  | new address tp => exact new_commandEffect address tp p
  | init => exact init_commandEffect p
  | setMaster v => exact setMaster_commandEffect v p
  | setChannel c v => exact setChannel_commandEffect c v p
  | setMute enabled => exact setMute_commandEffect enabled p
  | _ => cases hk

/-- A command that goes on is rejected, enters the settle delay or enters phase WRITE. -/
theorem exec_command_eq_next {i : Instr} {s s' : State} (hk : i.kind = .command) (h : exec i s = .next s') :
    (∃ e, fromBus (.err e) = false ∧ s' = State.endCommand (.err e) s) ∨
    (∃ a c, s' = State.enterSettle { s with addr7 := a, ctor := c }) ∨
    (∃ l, s' = writing s l) := by
  cases commandEffect_of_kind hk s.phase with
  | refused he => rw [he s rfl] at h; cases h
  | rejected e hb he => rw [he s rfl] at h; cases h; exact .inl ⟨e, hb, rfl⟩
  | constructs _ a he => rw [he s rfl] at h; cases h; exact .inr (.inl ⟨_, _, rfl⟩)
  | settles _ he => rw [he s rfl] at h; cases h; exact .inr (.inl ⟨s.addr7, _, rfl⟩)
  | writes _ b0 b1 f _ he => rw [he s rfl] at h; cases h; exact .inr (.inr ⟨_, rfl⟩)

end Sys2Proof.Proofs
end

section
/-! PROOFS. What a step does, by what it fetches. -/

namespace Sys2Proof.Proofs

open Sys2Proof.Machine Sys2Proof.Safety

/-! ### Waiting for the answer -/

theorem finishWrite_eq_answered (a : Addr7) (b0 b1 : Byte) (t : TxStatus) (s : State) (rest : List TxSample) :
    State.finishWrite a b0 b1 t { s with txIn := rest } = answered s a b0 b1 t rest := by
  cases t <;> cases hc : s.ctor <;>
    simp [State.finishWrite, State.endCommand, State.redrawLatches, State.settlePhase, answered,
      translateAnswer, hc]

theorem awaitAnswer_silent {a : Addr7} {b0 b1 : Byte} {s : State} (hx : s.txIn = []) :
    State.awaitAnswer a b0 b1 s = s := by
  unfold State.awaitAnswer; rw [hx]

theorem awaitAnswer_unanswered {a : Addr7} {b0 b1 : Byte} {s : State} {x : TxSample} {rest : List TxSample}
    (hx : s.txIn = x :: rest) (hd : x.done = false) : State.awaitAnswer a b0 b1 s = { s with txIn := rest } := by
  simp [State.awaitAnswer, hx, hd]

theorem awaitAnswer_answered {a : Addr7} {b0 b1 : Byte} {s : State} {x : TxSample} {rest : List TxSample}
    (hx : s.txIn = x :: rest) (hd : x.done = true) :
    State.awaitAnswer a b0 b1 s = answered s a b0 b1 x.answer rest := by
  simp [State.awaitAnswer, hx, hd, finishWrite_eq_answered]

theorem answered_phase_ne_write (s : State) (a : Addr7) (b0 b1 : Byte) (t : TxStatus) (rest : List TxSample) :
    (answered s a b0 b1 t rest).phase ≠ .write := by
  simp only [answered]
  split <;> nofun

/-! ### A step, by what is fetched -/

theorem step_reset {s : State} (hr : s.resetAsserted = true) : step s = s.nextClock.resetEvent := by
  simp [step, hr]

theorem step_idle {s : State} (hr : s.resetAsserted = false) (hf : fetch s.nextClock = .idle) :
    step s = .next s.nextClock := by
  simp [step, hr, hf]

theorem step_settling {s : State} (hr : s.resetAsserted = false) (hf : fetch s.nextClock = .settling) :
    step s = .next s.nextClock.settleTick := by
  simp [step, hr, hf]

theorem step_run {s t : State} {i : Instr} (hr : s.resetAsserted = false) (hf : fetch s.nextClock = .run i t) :
    step s = exec i t := by
  simp [step, hr, hf]

theorem step_reject {s : State} {r : Refusal} (hr : s.resetAsserted = false)
    (hf : fetch s.nextClock = .reject r) : step s = .refused r := by
  simp [step, hr, hf]

/-- The three kinds of instruction that `step` runs, by the place the instruction was fetched from. -/
theorem fetch_run_kind {s t : State} {i : Instr} (h : fetch s = .run i t) :
    (i.kind = .command ∧ (s.phase = .off ∨ s.phase = .ready) ∧ ∃ rest, t = { s with cmdIn := rest }) ∨
    (s.phase = .write ∧ t = s ∧ (i.kind = .wireByte ∨ i.kind = .frame)) := by
  obtain ⟨w, rest, hp, -, hd, ht⟩ | ⟨hp, ht, ⟨-, hd⟩ | ⟨-, hd⟩ | ⟨-, hd⟩⟩ := fetch_eq_run h
  · exact .inl ⟨decodeCommand_kind hd, hp, rest, ht⟩
  · exact .inr ⟨hp, ht, .inl (decodeWire_kind hd)⟩
  · exact .inr ⟨hp, ht, .inl (decodeWire_kind hd)⟩
  · exact .inr ⟨hp, ht, .inr (decodeFrame_kind hd)⟩

theorem fetch_settle {s : State} (h : s.phase = .settle) : fetch s = .settling := by
  unfold fetch; rw [h]

theorem fetch_coarse {s : State} {i : Instr} (hp : s.phase = .write) (hs : s.stage = .coarseDue)
    (hd : decodeWire s.latches.coarse = .ok i) : fetch s = .run i s := by
  simp [fetch, fetchPayload, hp, hs, decode, hd, fetched]

theorem fetch_fine {s : State} {i : Instr} (hp : s.phase = .write) (hs : s.stage = .fineDue)
    (hd : decodeWire s.latches.fine = .ok i) : fetch s = .run i s := by
  simp [fetch, fetchPayload, hp, hs, decode, hd, fetched]

theorem fetch_frame {s : State} {i : Instr} (hp : s.phase = .write) (hs : s.stage = .answerDue)
    (hd : decodeFrame s.latches.coarse s.latches.fine = .ok i) : fetch s = .run i s := by
  simp [fetch, fetchPayload, hp, hs, decode, hd, fetched]

theorem fetched_ne_settling (d : Except DecodeError Instr) (r : Refusal) (s : State) :
    fetched d r s ≠ .settling := by
  unfold fetched; split <;> nofun

theorem fetchCommand_ne_settling (s : State) : fetchCommand s ≠ .settling := by
  unfold fetchCommand
  split
  · nofun
  · exact fetched_ne_settling _ _ _

theorem fetchPayload_ne_settling (s : State) : fetchPayload s ≠ .settling := by
  unfold fetchPayload
  split <;> exact fetched_ne_settling _ _ _

theorem phase_of_fetch_settling {s : State} (h : fetch s = .settling) : s.phase = .settle := by
  unfold fetch at h
  split at h
  · exact absurd h (fetchCommand_ne_settling s)
  · exact absurd h (fetchCommand_ne_settling s)
  · assumption
  · exact absurd h (fetchPayload_ne_settling s)

end Sys2Proof.Proofs
end

section
/-! PROOFS. The observation: the events and results that a step can add (O34, O45). -/

namespace Sys2Proof.Proofs

open Sys2Proof.Machine Sys2Proof.Safety

/-! ### What a step adds to the trace and the results -/

/-- What a step adds to the observation (R13), seen from the state before it: nothing, or the result of a command
rejected for its operands. -/
def ObservesNoEvent (s s' : State) : Prop :=
  s'.trace = s.trace ∧
    (s'.results = s.results ∨ ∃ e, fromBus (.err e) = false ∧ s'.results = s.results ++ [.err e])

/-- The settle delay has ended: its event, and no result. -/
def ObservesDelay (s s' : State) : Prop :=
  s.phase = .settle ∧ s'.phase = .write ∧ s'.trace = s.trace ++ [.delay 200] ∧ s'.results = s.results

/-- A transaction has been answered: the `Write` of the payload in flight, and the answer's translation as the
result. -/
def ObservesWrite (s s' : State) : Prop :=
  ∃ a t, s.phase = .write ∧ s'.phase ≠ .write ∧ s.addr7 = some a ∧
    s'.trace = s.trace ++ [.write a s.latches.coarse s.latches.fine t] ∧
    s'.results = s.results ++ [translateAnswer t]

theorem exec_command_observes {i : Instr} {s s' : State} (hk : i.kind = .command) (h : exec i s = .next s') :
    ObservesNoEvent s s' := by
  obtain ⟨e, he, rfl⟩ | ⟨a, c, rfl⟩ | ⟨l, rfl⟩ := exec_command_eq_next hk h
  · exact ⟨rfl, .inr ⟨e, he, rfl⟩⟩
  · exact ⟨rfl, .inl rfl⟩
  · exact ⟨rfl, .inl rfl⟩

theorem exec_wireByte_observes {i : Instr} {s s' : State} (hk : i.kind = .wireByte) (h : exec i s = .next s') :
    ObservesNoEvent s s' := by
  obtain ⟨-, st, rfl⟩ := exec_wireByte_eq_next hk h
  exact ⟨rfl, .inl rfl⟩

theorem exec_frame_observes {i : Instr} {s s' : State} (hk : i.kind = .frame) (h : exec i s = .next s') :
    ObservesNoEvent s s' ∨ ObservesWrite s s' := by
  obtain ⟨a, hp, -, ha, rfl⟩ := exec_frame_eq_next hk h
  obtain ⟨-, e⟩ | ⟨x, rest, -, -, e⟩ | ⟨x, rest, -, -, e⟩ :=
    awaitAnswer_cases a s.latches.coarse s.latches.fine s <;> rw [e]
  · exact .inl ⟨rfl, .inl rfl⟩
  · exact .inl ⟨rfl, .inl rfl⟩
  · refine .inr ⟨a, x.answer, hp, ?_, ha, by simp, by simp⟩
    rw [State.finishWrite_phase]
    split <;> simp

theorem settleTick_observes {s : State} (hp : s.phase = .settle) :
    ObservesNoEvent s s.settleTick ∨ ObservesDelay s s.settleTick := by
  obtain ⟨-, e⟩ | ⟨-, e⟩ := settleTick_cases s <;> rw [e]
  · exact .inr ⟨hp, rfl, rfl, rfl⟩
  · exact .inl ⟨rfl, .inl rfl⟩

/-- Every step adds nothing but the result of a rejected command, or ends the settle delay, or ends a
transaction. -/
theorem step_observes {s s' : State} (h : step s = .next s') :
    ObservesNoEvent s s' ∨ ObservesDelay s s' ∨ ObservesWrite s s' := by
  obtain ⟨-, hr⟩ | ⟨-, -, rfl⟩ | ⟨-, hf, rfl⟩ | ⟨i, t, -, hf, he⟩ := step_eq_next h
  · obtain ⟨-, rfl⟩ := resetEvent_eq_next hr
    exact .inl ⟨rfl, .inl rfl⟩
  · exact .inl ⟨rfl, .inl rfl⟩
  · obtain hn | hd := settleTick_observes (phase_of_fetch_settling hf)
    · exact .inl hn
    · exact .inr (.inl hd)
  · obtain ⟨hk, -, rest, rfl⟩ | ⟨-, rfl, hk | hk⟩ := fetch_run_kind hf
    · have hn := exec_command_observes hk he
      exact .inl hn
    · have hn := exec_wireByte_observes hk he
      exact .inl hn
    · obtain hn | hw := exec_frame_observes hk he
      · exact .inl hn
      · exact .inr (.inr hw)

/-- Settles O34: the events of the three things a step can add to the observation. -/
theorem aStepAppendsAtMostOneEvent : Obligations.AStepAppendsAtMostOneEvent := by
  intro s s' h
  obtain ⟨ht, -⟩ | ⟨hp, hp', ht, -⟩ | ⟨a, t, hp, hp', ha, ht, -⟩ := step_observes h
  · exact .inl ht
  · exact .inr (.inl ⟨hp, hp', ht⟩)
  · exact .inr (.inr ⟨a, t, hp, hp', ha, ht⟩)

/-! ### Answers and results -/

@[simp] theorem writeAnswers_append_delay (tr : List Event) (ms : Nat) :
    writeAnswers (tr ++ [.delay ms]) = writeAnswers tr := by
  simp [writeAnswers]

@[simp] theorem writeAnswers_append_write (tr : List Event) (a : Addr7) (b0 b1 : Byte) (t : TxStatus) :
    writeAnswers (tr ++ [.write a b0 b1 t]) = writeAnswers tr ++ [t] := by
  simp [writeAnswers]

@[simp] theorem fromBus_translateAnswer (t : TxStatus) : fromBus (translateAnswer t) = true := by
  cases t <;> rfl

/-- Settles O45: an operand error is no result of the bus, the settle delay adds no answer, and an answered
transaction adds its answer and the translation of it. -/
theorem stepKeepsAnswersAsResults : Obligations.StepKeepsAnswersAsResults := by
  intro s s' hs h
  unfold answersAreResults at hs ⊢
  obtain ⟨ht, hr | ⟨e, he, hr⟩⟩ | ⟨-, -, ht, hr⟩ | ⟨a, t, -, -, -, ht, hr⟩ := step_observes h
  · rw [hr, ht, hs]
  · rw [hr, ht, ← hs, List.filter_append]
    simp [he]
  · rw [hr, ht, writeAnswers_append_delay, hs]
  · rw [hr, ht, writeAnswers_append_write, List.filter_append, List.map_append, hs]
    simp

end Sys2Proof.Proofs
end

section
/-! PROOFS. The transient latches carry nothing from one command to the next (O46). -/

namespace Sys2Proof.Proofs

open Sys2Proof.Machine Sys2Proof.Safety

/-! ### Noninterference of the latches -/

/-- A state alike `s` but for the latches is `s` with other latches and another count of draws. -/
theorem alikeButLatches_iff (s t : State) :
    alikeButLatches s t ↔ ∃ l n, t = { s with latches := l, draws := n } ∧
      (s.phase = .write → s.latches.coarse = l.coarse ∧ s.latches.fine = l.fine) := by
  constructor
  · rintro ⟨ht, hw⟩
    exact ⟨t.latches, t.draws, ht, hw⟩
  · rintro ⟨l, n, rfl, hw⟩
    exact ⟨rfl, hw⟩

theorem outcomesAlike_ite {c d : Prop} [Decidable c] [Decidable d] {x x' y y' : Machine.Outcome} (hcd : c ↔ d)
    (hx : c → outcomesAlike x x') (hy : outcomesAlike y y') :
    outcomesAlike (if c then x else y) (if d then x' else y') := by
  by_cases hc : c
  · rw [if_pos hc, if_pos (hcd.mp hc)]
    exact hx hc
  · rw [if_neg hc, if_neg (mt hcd.mpr hc)]
    exact hy

theorem nextClock_alike {s t : State} (h : alikeButLatches s t) : alikeButLatches s.nextClock t.nextClock := by
  obtain ⟨l, n, rfl, hw⟩ := (alikeButLatches_iff s t).mp h
  exact ⟨rfl, hw⟩

theorem endCommand_alike {s t : State} (r : Result) (h : alikeButLatches s t) :
    alikeButLatches (State.endCommand r s) (State.endCommand r t) := by
  obtain ⟨l, n, rfl, hw⟩ := (alikeButLatches_iff s t).mp h
  exact ⟨rfl, hw⟩

theorem new_alike {s t : State} (a : Addr7) (h : alikeButLatches s t) :
    alikeButLatches (State.enterSettle { s with addr7 := some a, ctor := true })
      (State.enterSettle { t with addr7 := some a, ctor := true }) := by
  obtain ⟨l, n, rfl, -⟩ := (alikeButLatches_iff s t).mp h
  exact ⟨rfl, nofun⟩

theorem init_alike {s t : State} (h : alikeButLatches s t) :
    alikeButLatches (State.enterSettle { s with ctor := false })
      (State.enterSettle { t with ctor := false }) := by
  obtain ⟨l, n, rfl, -⟩ := (alikeButLatches_iff s t).mp h
  exact ⟨rfl, nofun⟩

/-- Phase WRITE begins alike when its payload is the same. -/
theorem writing_alike {s t : State} {l k : Latches} (h : alikeButLatches s t) (hc : l.coarse = k.coarse)
    (hf : l.fine = k.fine) : alikeButLatches (writing s l) (writing t k) := by
  obtain ⟨l', n, rfl, -⟩ := (alikeButLatches_iff s t).mp h
  exact ⟨rfl, fun _ => ⟨hc, hf⟩⟩

theorem resetEvent_alike {s t : State} (h : alikeButLatches s t) :
    outcomesAlike s.resetEvent t.resetEvent := by
  obtain ⟨l, n, rfl, -⟩ := (alikeButLatches_iff s t).mp h
  exact outcomesAlike_ite Iff.rfl (fun _ => rfl) ⟨rfl, nofun⟩

theorem settleTick_alike {s t : State} (h : alikeButLatches s t) : alikeButLatches s.settleTick t.settleTick := by
  obtain ⟨l, n, rfl, hw⟩ := (alikeButLatches_iff s t).mp h
  unfold State.settleTick
  by_cases ht : s.timer.toNat ≤ 1
  · simp only [ht, if_true]
    exact ⟨rfl, fun _ => ⟨rfl, rfl⟩⟩
  · simp only [ht, if_false]
    exact ⟨rfl, hw⟩

/-- A command reads no latch, and a payload it loads does not depend on one (R26). -/
theorem exec_command_alike {i : Instr} {s t : State} (hk : i.kind = .command) (h : alikeButLatches s t) :
    outcomesAlike (exec i s) (exec i t) := by
  have hp : t.phase = s.phase := by rw [h.1]
  cases commandEffect_of_kind hk s.phase with
  | refused he => rw [he s rfl, he t hp]; exact rfl
  | rejected e _ he => rw [he s rfl, he t hp]; exact endCommand_alike _ h
  | constructs _ a he => rw [he s rfl, he t hp]; exact new_alike a h
  | settles _ he => rw [he s rfl, he t hp]; exact init_alike h
  | writes _ b0 b1 f hf he =>
    obtain ⟨hc, hb⟩ := hf s.latches
    obtain ⟨hc', hb'⟩ := hf t.latches
    rw [he s rfl, he t hp]
    exact writing_alike h (hc.trans hc'.symm) (hb.trans hb'.symm)

theorem handByte_alike {s t : State} (b : Byte) (h : alikeButLatches s t) :
    outcomesAlike (handByte b s) (handByte b t) := by
  obtain ⟨l, n, rfl, hw⟩ := (alikeButLatches_iff s t).mp h
  unfold handByte handFineByte
  split
  · exact outcomesAlike_ite (and_congr_right fun hp => by rw [(hw hp).1]) (fun _ => ⟨rfl, hw⟩) rfl
  · exact outcomesAlike_ite (and_congr_right fun hp => by rw [(hw hp).2]) (fun _ => ⟨rfl, hw⟩) rfl

theorem awaitAnswer_alike {s t : State} (a : Addr7) (b0 b1 : Byte) (h : alikeButLatches s t) :
    alikeButLatches (State.awaitAnswer a b0 b1 s) (State.awaitAnswer a b0 b1 t) := by
  have ht : t.txIn = s.txIn := by rw [h.1]
  cases hx : s.txIn with
  | nil =>
    rw [awaitAnswer_silent hx, awaitAnswer_silent (ht.trans hx)]
    exact h
  | cons x rest =>
    obtain ⟨l, n, rfl, hw⟩ := (alikeButLatches_iff s t).mp h
    cases hd : x.done with
    | false =>
      rw [awaitAnswer_unanswered hx hd, awaitAnswer_unanswered (ht.trans hx) hd]
      exact ⟨rfl, hw⟩
    | true =>
      rw [awaitAnswer_answered hx hd, awaitAnswer_answered (ht.trans hx) hd]
      exact ⟨rfl, fun hp => absurd hp (answered_phase_ne_write s a b0 b1 x.answer rest)⟩

theorem frameWrite_alike {s t : State} (b0 b1 : Byte) (h : alikeButLatches s t) :
    outcomesAlike (frameWrite b0 b1 s) (frameWrite b0 b1 t) := by
  have ha : t.addr7 = s.addr7 := by rw [h.1]
  unfold frameWrite
  refine outcomesAlike_ite ?_ (fun _ => ?_) rfl
  · obtain ⟨l, n, rfl, hw⟩ := (alikeButLatches_iff s t).mp h
    exact and_congr_right fun hp => by rw [(hw hp).1, (hw hp).2]
  · rw [ha]
    cases s.addr7 with
    | none => exact rfl
    | some a => exact awaitAnswer_alike a b0 b1 h

theorem exec_alike (i : Instr) {s t : State} (h : alikeButLatches s t) :
    outcomesAlike (exec i s) (exec i t) := by
  cases hk : i.kind with
  | command => exact exec_command_alike hk h
  | wireByte =>
    obtain ⟨b, -, he⟩ := exec_wireByte hk
    rw [he, he]
    exact outcomesAlike_ite Iff.rfl (fun _ => handByte_alike b h) rfl
  | frame =>
    obtain ⟨b0, b1, -, he⟩ := exec_frame hk
    rw [he, he]
    exact outcomesAlike_ite Iff.rfl (fun _ => frameWrite_alike b0 b1 h) rfl

/-- Two states fetch alike: the same instruction, in states that are alike again, or the same of the other
answers of the fetch. -/
inductive FetchesAlike : Fetch → Fetch → Prop
  | idle : FetchesAlike .idle .idle
  | settling : FetchesAlike .settling .settling
  | run (i : Instr) {s t : State} (h : alikeButLatches s t) : FetchesAlike (.run i s) (.run i t)
  | reject (r : Refusal) : FetchesAlike (.reject r) (.reject r)

theorem fetched_alike (d : Except DecodeError Instr) (r : Refusal) {s t : State} (h : alikeButLatches s t) :
    FetchesAlike (fetched d r s) (fetched d r t) := by
  cases d with
  | ok i => exact .run i h
  | error _ => exact .reject r

theorem fetchCommand_alike {s t : State} (h : alikeButLatches s t) :
    FetchesAlike (fetchCommand s) (fetchCommand t) := by
  have hc : t.cmdIn = s.cmdIn := by rw [h.1]
  unfold fetchCommand
  rw [hc]
  split
  · exact .idle
  · obtain ⟨l, n, rfl, hw⟩ := (alikeButLatches_iff s t).mp h
    exact fetched_alike _ _ ⟨rfl, hw⟩

theorem fetchPayload_alike {s t : State} (hp : s.phase = .write) (h : alikeButLatches s t) :
    FetchesAlike (fetchPayload s) (fetchPayload t) := by
  have hs : t.stage = s.stage := by rw [h.1]
  obtain ⟨hc, hf⟩ := h.2 hp
  unfold fetchPayload
  rw [hs, hc, hf]
  split <;> exact fetched_alike _ _ h

theorem fetch_alike {s t : State} (h : alikeButLatches s t) : FetchesAlike (fetch s) (fetch t) := by
  have hp : t.phase = s.phase := by rw [h.1]
  unfold fetch
  rw [hp]
  split
  · exact fetchCommand_alike h
  · exact fetchCommand_alike h
  · exact .settling
  · next hw => exact fetchPayload_alike hw h

/-- Settles O46: the reset pin, the fetch and every meaning answer alike in states that are alike. -/
theorem latchesCarryNothing : Obligations.LatchesCarryNothing := by
  intro s t h
  have hn := nextClock_alike h
  have hrst : t.resetAsserted = s.resetAsserted := by rw [h.1]; rfl
  cases hr : s.resetAsserted with
  | true =>
    rw [step_reset hr, step_reset (hrst.trans hr)]
    exact resetEvent_alike hn
  | false =>
    rw [hr] at hrst
    have hf := fetch_alike hn
    generalize hs : fetch s.nextClock = f at hf
    generalize ht : fetch t.nextClock = g at hf
    cases hf with
    | idle => rw [step_idle hr hs, step_idle hrst ht]; exact hn
    | settling => rw [step_settling hr hs, step_settling hrst ht]; exact settleTick_alike hn
    | run i hu => rw [step_run hr hs, step_run hrst ht]; exact exec_alike i hu
    | reject r => rw [step_reject hr hs, step_reject hrst ht]; exact rfl

end Sys2Proof.Proofs
end

section
/-! PROOFS. Runs of a whole command, and the refinement of the command layer (O49). -/

namespace Sys2Proof.Proofs

open Sys2Proof.Machine Sys2Proof.Safety

/-! ### Runs through the settle delay and the transaction -/

theorem noReset_resetAsserted {s : State} (h : noReset s) : s.resetAsserted = false := by
  unfold State.resetAsserted
  cases hl : s.rstIn with
  | nil => rfl
  | cons b rest => exact h b (by rw [hl]; exact List.mem_cons_self)

/-- Fewer samples of the reset pin to come hold no asserted one either. -/
theorem noReset_of_rstIn_tail {s t : State} (h : noReset s) (ht : t.rstIn = s.rstIn.tail) : noReset t :=
  fun b hb => h b (List.mem_of_mem_tail (ht ▸ hb))

/-- Where the settle delay of `s` ends: phase WRITE begins with the clear payload, `Delay(200)` is in the trace, and
`rst` is left of the samples of the reset pin (R32, R161). `run_settle` says that the machine gets there. -/
def settled (rst : List Bool) (s : State) : State :=
  { s with phase := .write, stage := .coarseDue, timer := 0, txReq := true, rsp := none, rstIn := rst,
           latches := { s.latches with coarse := 0x00, fine := 0xC0 },
           trace := s.trace ++ [.delay 200] }

/-- A clock of the settle delay ends it when `TIMER` is at 1, and counts down before. -/
theorem step_settle {s : State} (hp : s.phase = .settle) (hr : noReset s) :
    (s.timer.toNat ≤ 1 → step s = .next (settled s.rstIn.tail s)) ∧
    (1 < s.timer.toNat → step s = .next { s.nextClock with timer := s.timer - 1 }) := by
  rw [step_settling (noReset_resetAsserted hr) (fetch_settle hp)]
  obtain ⟨hle, e⟩ | ⟨hlt, e⟩ := settleTick_cases s.nextClock <;> rw [e]
  · exact ⟨fun _ => rfl, fun h => absurd hle (Nat.not_le.mpr h)⟩
  · exact ⟨fun h => absurd hlt (Nat.not_lt.mpr h), fun _ => rfl⟩

/-- From SETTLE with `TIMER` at n, the n-th step ends the delay. -/
theorem run_settle (n : Nat) : ∀ s : State, s.phase = .settle → s.timer.toNat = n + 1 → noReset s →
    Host.Core.run core (n + 1) s = .next (settled (s.rstIn.drop (n + 1)) s) := by
  induction n with
  | zero =>
    intro s hp ht hr
    rw [Nat.zero_add, List.drop_one]
    exact run_next 0 s _ ((step_settle hp hr).1 (by omega))
  | succ n ih =>
    intro s hp ht hr
    have hstep := (step_settle hp hr).2 (by omega)
    have htimer : (s.timer - 1).toNat = n + 1 := by rw [timer_sub_one_toNat (by omega)]; omega
    have hrest := ih { s.nextClock with timer := s.timer - 1 } hp htimer (noReset_of_rstIn_tail hr rfl)
    rw [State.nextClock_rstIn, ← List.tail_drop_eq_drop_tail, List.tail_drop] at hrest
    exact (run_next _ _ _ hstep).trans hrest

/-- One clock later, with `st` as the stage of the transaction: what handing over a byte comes to. -/
def nextStage (st : TxStage) (s : State) : State := { s.nextClock with stage := st }

/-- Phase WRITE with an emitted payload and byte 0 due: the byte is handed over. -/
theorem step_coarseDue {s : State} (hp : s.phase = .write) (hs : s.stage = .coarseDue) (hr : noReset s)
    (he : frameEmitted s.latches.coarse s.latches.fine = true) : step s = .next (nextStage .fineDue s) := by
  obtain ⟨⟨hb, hpos⟩, -⟩ := bytes_of_frameEmitted he
  obtain ⟨i, hd, hx⟩ := exec_of_byteEmitted hb
  have hf := fetch_coarse (s := s.nextClock) hp hs hd
  rw [step_run (noReset_resetAsserted hr) hf, hx, handByte_coarse hpos]
  exact if_pos ⟨hp, hs, rfl⟩

/-- Phase WRITE with an emitted payload and byte 1 due: the byte is handed over. -/
theorem step_fineDue {s : State} (hp : s.phase = .write) (hs : s.stage = .fineDue) (hr : noReset s)
    (he : frameEmitted s.latches.coarse s.latches.fine = true) : step s = .next (nextStage .answerDue s) := by
  obtain ⟨-, hb, hpos⟩ := bytes_of_frameEmitted he
  obtain ⟨i, hd, hx⟩ := exec_of_byteEmitted hb
  have hf := fetch_fine (s := s.nextClock) hp hs hd
  rw [step_run (noReset_resetAsserted hr) hf, hx, handByte_fine hpos]
  exact if_pos ⟨hp, hs, rfl⟩

/-- Phase WRITE with an emitted payload handed over: the block waits for the answer. -/
theorem step_answerDue {s : State} {a : Addr7} (hp : s.phase = .write) (hs : s.stage = .answerDue)
    (ha : s.addr7 = some a) (hr : noReset s) (he : frameEmitted s.latches.coarse s.latches.fine = true) :
    step s = .next (State.awaitAnswer a s.latches.coarse s.latches.fine s.nextClock) := by
  obtain ⟨i, hd, hx⟩ := exec_of_frameEmitted he
  have hf := fetch_frame (s := s.nextClock) hp hs hd
  rw [step_run (noReset_resetAsserted hr) hf, hx]
  unfold frameWrite
  rw [if_pos ⟨hp, hs, rfl, rfl⟩, State.nextClock_addr7, ha]

/-- No reset is to come, and the next sample of the transport is the answered sample `x`. -/
def AnswerNext (s : State) (x : TxSample) : Prop :=
  noReset s ∧ x.done = true ∧ ∃ rest, s.txIn = x :: rest

/-- The clock in which the transport's answer is read, three clocks after phase WRITE was entered. -/
def answerClock (s : State) : State := (nextStage .answerDue (nextStage .fineDue s)).nextClock

/-- R24 (rows WRITE): a transaction whose answer comes next ends in three steps. -/
theorem run_write {s : State} {a : Addr7} {x : TxSample} (hp : s.phase = .write) (hs : s.stage = .coarseDue)
    (ha : s.addr7 = some a) (he : frameEmitted s.latches.coarse s.latches.fine = true) (hx : AnswerNext s x) :
    ∃ rest, Host.Core.run core 3 s =
      .next (answered (answerClock s) a s.latches.coarse s.latches.fine x.answer rest) := by
  obtain ⟨hr, hd, rest, htx⟩ := hx
  have hr1 : noReset (nextStage .fineDue s) := noReset_of_rstIn_tail hr rfl
  have hr2 : noReset (nextStage .answerDue (nextStage .fineDue s)) := noReset_of_rstIn_tail hr1 rfl
  have h1 := step_coarseDue hp hs hr he
  have h2 := step_fineDue (s := nextStage .fineDue s) hp rfl hr1 he
  have h3 := step_answerDue (s := nextStage .answerDue (nextStage .fineDue s)) hp rfl ha hr2 he
  have hans := awaitAnswer_answered (s := answerClock s) (a := a) (b0 := s.latches.coarse) (b1 := s.latches.fine)
    htx hd
  refine ⟨rest, ?_⟩
  rw [run_next 2 _ _ h1, run_next 1 _ _ h2]
  exact run_next 0 _ _ (h3.trans (congrArg _ hans))

/-! ### The two layers -/

/-- From `s` the port layer comes within `bound` steps to the controller, the one result and the events of `out`, and
takes no command. -/
def CompletesWithin (bound : Nat) (s : State) (out : Completed) : Prop :=
  ∃ k t, k ≤ bound ∧ Host.Core.run core k s = .next t ∧ t.controller = out.controller ∧
    t.results = s.results ++ [out.result] ∧ t.trace = s.trace ++ out.events ∧ t.cmdIn = s.cmdIn

/-- The controller a transaction to `a` leaves when it is answered `t` (R24, R251). -/
def answeredController (ctor : Bool) (a : Addr7) (t : TxStatus) : Controller :=
  if ctor = true ∧ t ≠ .ok then { phase := .off, ctor := false, addr7 := none }
  else { phase := .ready, ctor := false, addr7 := some a }

theorem answered_controller {s : State} {a : Addr7} (ha : s.addr7 = some a) (b0 b1 : Byte) (t : TxStatus)
    (rest : List TxSample) : (answered s a b0 b1 t rest).controller = answeredController s.ctor a t := by
  simp only [State.controller, answered, answeredController, ha]
  split_ifs <;> rfl

theorem answered_results (s : State) (a : Addr7) (b0 b1 : Byte) (t : TxStatus) (rest : List TxSample) :
    (answered s a b0 b1 t rest).results = s.results ++ [translateAnswer t] := by
  cases t <;> rfl

/-- A transaction completes with its `Write` and the translation of the answer. -/
theorem write_completes {s : State} {a : Addr7} {x : TxSample} (hp : s.phase = .write) (hs : s.stage = .coarseDue)
    (ha : s.addr7 = some a) (he : frameEmitted s.latches.coarse s.latches.fine = true) (hx : AnswerNext s x) :
    CompletesWithin 3 s
      { controller := answeredController s.ctor a x.answer
        result := translateAnswer x.answer
        events := [.write a s.latches.coarse s.latches.fine x.answer] } := by
  obtain ⟨rest, hrun⟩ := run_write hp hs ha he hx
  exact ⟨3, _, le_rfl, hrun, answered_controller (s := answerClock s) ha _ _ _ _, answered_results _ _ _ _ _ _,
    rfl, rfl⟩

/-- INIT_SEQUENCE completes with its delay and the clear frame (R161). -/
theorem settle_completes {s : State} {a : Addr7} {x : TxSample} (hp : s.phase = .settle)
    (htm : s.timer = Config.settleLoad) (ha : s.addr7 = some a) (hx : AnswerNext s x) :
    CompletesWithin (Config.settleTicks + 3) s
      { controller := answeredController s.ctor a x.answer
        result := translateAnswer x.answer
        events := [.delay 200, .write a 0x00 0xC0 x.answer] } := by
  obtain ⟨hr, hd, htx⟩ := hx
  obtain ⟨n, hn⟩ := Nat.exists_eq_add_of_le' Config.settleTicks_pos
  have hrun := run_settle n s hp (by rw [htm, Config.settleLoad_toNat, hn]) hr
  have hx' : AnswerNext (settled (s.rstIn.drop (n + 1)) s) x :=
    ⟨fun b hb => hr b (List.mem_of_mem_drop hb), hd, htx⟩
  have hclear : frameEmitted 0x00 0xC0 = true := by decide
  obtain ⟨k, t, hk, hrun', hc, hres, htr, hcmd⟩ := write_completes (s := settled _ s) rfl rfl ha hclear hx'
  refine ⟨n + 1 + k, t, by omega, (run_add k (n + 1) s _ hrun).trans hrun', hc, hres, ?_, hcmd⟩
  rw [htr]
  exact List.append_assoc _ _ _

/-! ### The five commands on the two layers -/

/-- The command `i` is accepted in `s`, and the port layer then brings it to what `out` says. -/
def PortCompletes (i : Instr) (s : State) (out : Completed) : Prop :=
  ∃ s1 k s2, exec i s = .next s1 ∧ k ≤ Config.settleTicks + 3 ∧ Host.Core.run core k s1 = .next s2 ∧
    s2.controller = out.controller ∧ s2.results = s.results ++ [out.result] ∧
    s2.trace = s.trace ++ out.events ∧ s2.cmdIn = s.cmdIn

/-- A rejected command has completed as soon as it is accepted. -/
theorem portCompletes_of_rejected {i : Instr} {s : State} {e : CommandError} {out : Completed}
    (he : exec i s = .next (State.endCommand (.err e) s)) (ho : rejectedWith s.controller e = some out) :
    PortCompletes i s out := by
  cases ho
  exact ⟨_, 0, _, he, Nat.zero_le _, rfl, rfl, rfl, (List.append_nil _).symm, rfl⟩

/-- A command with a phase WRITE before it completes with the transaction. -/
theorem portCompletes_of_writing {i : Instr} {s : State} {l : Latches} {x : TxSample} {out : Completed}
    (he : exec i s = .next (writing s l)) (hl : frameEmitted l.coarse l.fine = true) (hc : s.ctor = false)
    (hx : AnswerNext s x) (ho : writtenBy s.controller [] (l.coarse, l.fine) x.answer = some out) :
    PortCompletes i s out := by
  unfold writtenBy at ho
  split at ho
  · cases ho
  · next a ha =>
    cases ho
    obtain ⟨k, t, hk, hrun, hctl, hrest⟩ := write_completes (s := writing s l) rfl rfl ha hl hx
    have hready : answeredController s.ctor a x.answer = { phase := .ready, ctor := false, addr7 := some a } := by
      simp [answeredController, hc]
    exact ⟨_, k, t, he, by omega, hrun, hctl.trans hready, hrest⟩

/-- The register pairs of the seven targets. -/
def targetPairs : List RegisterPair := masterPair :: List.ofFn channelPair

/-- Every target's op-codes with digits of 0..79 are an emitted frame (R86). -/
theorem frameEmitted_digits :
    ∀ pair ∈ targetPairs, ∀ (t : Fin 8) (o : Fin 10),
      frameEmitted (pair.coarseBase ||| BitVec.ofInt 8 t.val) (pair.fineBase ||| BitVec.ofInt 8 o.val) = true := by
  decide +kernel

/-- The payload of a volume 0..100 is an emitted frame of its target. -/
theorem frameEmitted_volumePayload {pair : RegisterPair} (hpair : pair ∈ targetPairs) {v : Int} (h0 : 0 ≤ v)
    (h1 : v ≤ 100) :
    frameEmitted (volumePayload pair.coarseBase pair.fineBase v).1
      (volumePayload pair.coarseBase pair.fineBase v).2 = true := by
  obtain ⟨t, ht⟩ := Int.eq_ofNat_of_zero_le (a := (100 - v) * 79 / 100 / 10) (by omega)
  obtain ⟨o, ho⟩ := Int.eq_ofNat_of_zero_le (a := (100 - v) * 79 / 100 % 10) (by omega)
  unfold volumePayload
  rw [ht, ho]
  exact frameEmitted_digits pair hpair ⟨t, by omega⟩ ⟨o, by omega⟩

/-- The latches of a volume 0..100 hold the payload of the command layer (R150). -/
theorem volumeLatches_payload (pair : RegisterPair) {v : Int} (h0 : 0 ≤ v) (h1 : v ≤ 100) :
    volumePayload pair.coarseBase pair.fineBase v =
      ((volumeLatches pair v ((100 - clamp v 0 100) * 79 / 100)).coarse,
       (volumeLatches pair v ((100 - clamp v 0 100) * 79 / 100)).fine) := by
  rw [clamp_of_mem v 0 100 h0 h1]
  rfl

/-- A command that writes a volume 0..100 to a target completes with that volume's payload. -/
theorem portCompletes_of_volume {i : Instr} {s : State} {pair : RegisterPair} {v : Int} {x : TxSample}
    {out : Completed} (hpair : pair ∈ targetPairs) (h0 : 0 ≤ v) (h1 : v ≤ 100)
    (he : exec i s = volumeWrite pair v s) (hc : s.ctor = false) (hx : AnswerNext s x)
    (ho : writtenBy s.controller [] (volumePayload pair.coarseBase pair.fineBase v) x.answer = some out) :
    PortCompletes i s out := by
  have hem := frameEmitted_volumePayload hpair h0 h1
  rw [volumeLatches_payload pair h0 h1] at ho hem
  exact portCompletes_of_writing (he.trans (volumeWrite_eq_writing pair v s)) hem hc hx ho

/-- A command that enters INIT_SEQUENCE with an address completes with the delay and the clear frame. -/
theorem portCompletes_of_settle {i : Instr} {s : State} {a : Addr7} {c : Bool} {x : TxSample}
    (he : exec i s = .next (State.enterSettle { s with addr7 := some a, ctor := c })) (hx : AnswerNext s x) :
    PortCompletes i s
      { controller := answeredController c a x.answer, result := translateAnswer x.answer,
        events := [.delay 200, .write a 0x00 0xC0 x.answer] } := by
  obtain ⟨k, t, hk, hrun, hrest⟩ :=
    settle_completes (s := State.enterSettle { s with addr7 := some a, ctor := c }) rfl rfl rfl hx
  exact ⟨_, k, t, he, hk, hrun, hrest⟩

/-- The stored form of a legal address is its half (R21). -/
theorem storedAddress_eq_div :
    ∀ address ∈ Config.addr8Set, storedAddress address = BitVec.ofInt 7 (address / 2) := by decide

theorem constructed_eq_answered (a : Addr7) (t : TxStatus) :
    constructed a t =
      some { controller := answeredController true a t, result := translateAnswer t,
             events := [.delay 200, .write a 0x00 0xC0 t] } := by
  by_cases h : t = .ok <;> simp [constructed, answeredController, h]

theorem new_portCompletes {address : Int} {tp : Bool} {s : State} {x : TxSample} {out : Completed}
    (hx : AnswerNext s x) (ho : runCommand (.new address tp) x.answer s.controller = some out) :
    PortCompletes (.new address tp) s out := by
  simp only [runCommand] at ho
  split_ifs at ho with hp htp ha <;> rw [State.controller_phase] at hp
  · subst htp
    exact portCompletes_of_rejected (exec_new_noTransport hp address) ho
  · obtain rfl := Bool.eq_true_of_not_eq_false htp
    rw [← storedAddress_eq_div address ha, constructed_eq_answered] at ho
    cases ho
    exact portCompletes_of_settle (exec_new_accepted hp ha) hx
  · obtain rfl := Bool.eq_true_of_not_eq_false htp
    exact portCompletes_of_rejected (exec_new_badAddress hp ha) ho

theorem init_portCompletes {s : State} {x : TxSample} {out : Completed} (hx : AnswerNext s x)
    (ho : runCommand .init x.answer s.controller = some out) : PortCompletes .init s out := by
  simp only [runCommand] at ho
  split_ifs at ho with hp
  rw [State.controller_phase] at hp
  unfold writtenBy at ho
  split at ho
  · cases ho
  · next a ha =>
    rw [State.controller_addr7] at ha
    have he : exec .init s = .next (State.enterSettle { s with addr7 := some a, ctor := false }) := by
      rw [exec_init_accepted hp, ← ha]
    cases ho
    exact portCompletes_of_settle he hx

theorem volumeInRange_eq_false {v : Int} (hv : v < 0 ∨ 100 < v) : volumeInRange v = false := by
  rw [← Bool.not_eq_true, volumeInRange_iff]
  omega

theorem setMaster_portCompletes {v : Int} {s : State} {x : TxSample} {out : Completed} (hc : s.ctor = false)
    (hx : AnswerNext s x) (ho : runCommand (.setMaster v) x.answer s.controller = some out) :
    PortCompletes (.setMaster v) s out := by
  simp only [runCommand] at ho
  split_ifs at ho with hp hv <;> rw [State.controller_phase] at hp
  · exact portCompletes_of_rejected (exec_setMaster_badVolume hp (volumeInRange_eq_false hv)) ho
  · have hr : volumeInRange v = true := (volumeInRange_iff v).mpr (by omega)
    exact portCompletes_of_volume (pair := masterPair) List.mem_cons_self (by omega) (by omega)
      (exec_setMaster_accepted hp hr) hc hx ho

/-- The command layer's table of channels is the port layer's, index by index (R191). -/
theorem runCommand_setChannel (ch : Fin 6) {v : Int} (h0 : 0 ≤ v) (h1 : v ≤ 100) (t : TxStatus) {c : Controller}
    (hp : c.phase = .ready) :
    runCommand (.setChannel ch.val v) t c =
      writtenBy c [] (volumePayload (channelPair ch).coarseBase (channelPair ch).fineBase v) t := by
  have hv : ¬ (v < 0 ∨ 100 < v) := by omega
  simp only [runCommand, hp, hv, if_true, if_false]
  fin_cases ch <;> rfl

/-- No other channel is in the table (R192). -/
theorem runCommand_setChannel_outside {channel v : Int} (h : channel < 0 ∨ 5 < channel) (h0 : 0 ≤ v)
    (h1 : v ≤ 100) (t : TxStatus) {c : Controller} (hp : c.phase = .ready) :
    runCommand (.setChannel channel v) t c = rejectedWith c (.validation .channel) := by
  have hv : ¬ (v < 0 ∨ 100 < v) := by omega
  have hne : ∀ n : Int, 0 ≤ n → n ≤ 5 → channel ≠ n := fun n _ _ => by omega
  simp [runCommand, hp, hv, hne]

theorem setChannel_portCompletes {channel v : Int} {s : State} {x : TxSample} {out : Completed}
    (hc : s.ctor = false) (hx : AnswerNext s x)
    (ho : runCommand (.setChannel channel v) x.answer s.controller = some out) :
    PortCompletes (.setChannel channel v) s out := by
  by_cases hp : s.phase = .ready
  · by_cases hv : v < 0 ∨ 100 < v
    · simp only [runCommand, State.controller_phase, hp, hv, if_true] at ho
      exact portCompletes_of_rejected (exec_setChannel_badVolume hp channel (volumeInRange_eq_false hv)) ho
    · have hr : volumeInRange v = true := (volumeInRange_iff v).mpr (by omega)
      cases hch : channelIndex channel with
      | none =>
        rw [runCommand_setChannel_outside ((channelIndex_eq_none channel).mp hch) (by omega) (by omega) _ hp] at ho
        exact portCompletes_of_rejected (exec_setChannel_badChannel hp hr hch) ho
      | some ch =>
        have he := exec_setChannel_accepted hp hr hch
        obtain rfl := (channelIndex_eq_some channel ch).mp hch
        rw [runCommand_setChannel ch (by omega) (by omega) _ hp] at ho
        exact portCompletes_of_volume (List.mem_cons_of_mem _ (List.mem_ofFn.mpr ⟨ch, rfl⟩)) (by omega) (by omega)
          he hc hx ho
  · simp [runCommand, hp] at ho

theorem setMute_portCompletes {enabled : Bool} {s : State} {x : TxSample} {out : Completed}
    (hc : s.ctor = false) (hx : AnswerNext s x)
    (ho : runCommand (.setMute enabled) x.answer s.controller = some out) :
    PortCompletes (.setMute enabled) s out := by
  by_cases hp : s.phase = .ready
  · have hem : frameEmitted 0x00 (if enabled then 0xF9 else 0xF8) = true := by cases enabled <;> decide
    simp only [runCommand, State.controller_phase, hp, if_true] at ho
    exact portCompletes_of_writing (exec_setMute_accepted hp enabled) hem hc hx ho
  · simp [runCommand, hp] at ho

/-- Settles O49, command by command. -/
theorem portLayerRefinesCommandLayer : Obligations.PortLayerRefinesCommandLayer := by
  intro i s x rest out hc hr htx hd ho
  have hx : AnswerNext s x := ⟨hr, hd, rest, htx⟩
  cases i with
  | new address tp => exact new_portCompletes hx ho
  | init => exact init_portCompletes hx ho
  | setMaster v => exact setMaster_portCompletes hc hx ho
  | setChannel channel v => exact setChannel_portCompletes hc hx ho
  | setMute enabled => exact setMute_portCompletes hc hx ho
  | _ => cases ho

end Sys2Proof.Proofs
end

section
/-! PROOFS. The constant tables and the settle timer (O14, O26). -/

namespace Sys2Proof.Proofs

open Sys2Proof.Machine Sys2Proof.Safety

/-! ### The constants of the block -/

/-- Settles O14: each table is read out of its definition. -/
theorem constantTablesHoldTheirValues : Obligations.ConstantTablesHoldTheirValues :=
  ⟨rfl, rfl, rfl, rfl, rfl, by decide, by decide, rfl, by decide, by decide, rfl⟩

/-- Settles O26: the rounded-up fifth of `F_CLK`, and the least width that holds it. -/
theorem settleTicksRoundUp : Obligations.SettleTicksRoundUp := by
  have htick : Config.settleTicks = ((Config.fClk : Nat) + 4) / 5 := rfl
  refine ⟨by omega, by omega, Config.settleTicks_pos, Config.settleLoad_toNat, Config.settleTicks_lt, ?_⟩
  intro n hn
  exact Nat.clog_le_of_le_pow hn

end Sys2Proof.Proofs
end

section
/-! PROOFS. The commands and the frames, a case each: what each one leaves, and when it stops (O1, O3, O4, O5, O6,
O9, O20, O22). -/

namespace Sys2Proof.Proofs

open Sys2Proof.Machine Sys2Proof.Safety

/-! ### NEW and INIT -/

/-- The four legal operands of NEW and their stored forms (R21). -/
theorem storedAddress_table :
    ∀ p ∈ ([(0x80, 0x40), (0x84, 0x42), (0x88, 0x44), (0x8C, 0x46)] : List (Int × Addr7)),
      p.1 ∈ Config.addr8Set ∧ storedAddress p.1 = p.2 := by decide

/-- Settles O1: the accepted NEW, with the stored address read off the table. -/
theorem newStoresTheSevenBitAddress : Obligations.NewStoresTheSevenBitAddress := by
  intro s hp p hmem
  obtain ⟨hlegal, hstored⟩ := storedAddress_table p hmem
  rw [exec_new_accepted hp hlegal, hstored]
  rfl

/-- Settles O3. -/
theorem initEntersTheSettleDelay : Obligations.InitEntersTheSettleDelay :=
  fun _ hp => exec_init_accepted hp

/-- Settles O9: each command's refusal in the phases that do not accept it. -/
theorem commandsAreRefusedInOtherPhases : Obligations.CommandsAreRefusedInOtherPhases :=
  fun _ address channel volume tp enabled =>
    ⟨fun hp => exec_new_refused hp address tp,
     fun hp => ⟨exec_init_refused hp, exec_setMaster_refused hp volume, exec_setChannel_refused hp channel volume,
       exec_setMute_refused hp enabled⟩⟩

/-! ### The volume commands -/

/-- A non-negative integer that a width holds is not cut by it. -/
theorem toNat_ofInt_of_lt {n : Nat} {x : Int} (h0 : 0 ≤ x) (h1 : x < 2 ^ n) :
    ((BitVec.ofInt n x).toNat : Int) = x := by
  rw [BitVec.toNat_ofInt, Int.toNat_of_nonneg (Int.emod_nonneg _ (by positivity))]
  exact Int.emod_eq_of_lt h0 (by exact_mod_cast h1)

/-- The latches of a volume 0..100 hold the exact integers of R141 to R147: each fits its width (R26, R150). -/
theorem volumeLatches_latchesHold (pair : RegisterPair) {v : Int} (h0 : 0 ≤ v) (h1 : v ≤ 100) :
    latchesHold (volumeLatches pair v ((100 - clamp v 0 100) * 79 / 100)) pair.coarseBase pair.fineBase v := by
  have hclamp : clamp v Config.volMin Config.volMax = v := clamp_of_mem v 0 100 h0 h1
  have hflip : flipVolume v = 100 - v := rfl
  have hprod : mapProduct (100 - v) Config.volMin Config.attMin Config.attMax = (100 - v) * 79 := by
    simp [mapProduct, Config.volMin, Config.attMin, Config.attMax]
  rw [clamp_of_mem v 0 100 h0 h1]
  simp only [latchesHold, volumeLatches, splitDigits, hclamp, hflip, hprod]
  refine ⟨?_, ?_, ?_, ?_, ?_, ?_, rfl, rfl⟩ <;> apply toNat_ofInt_of_lt <;> omega

/-- R175, R176: an accepted SET_MASTER enters phase WRITE with the latches of the volume. -/
theorem exec_setMaster_writing {s : State} (hp : s.phase = .ready) {v : Int} (h0 : 0 ≤ v) (h1 : v ≤ 100) :
    ∃ l, exec (.setMaster v) s = .next (writing s l) ∧ latchesHold l 0xD0 0xE0 v :=
  ⟨_, (exec_setMaster_accepted hp ((volumeInRange_iff v).mpr ⟨h0, h1⟩)).trans (volumeWrite_eq_writing masterPair v s),
    volumeLatches_latchesHold masterPair h0 h1⟩

/-- R190, R191: an accepted SET_CHANNEL enters phase WRITE with the latches of the volume for its channel's pair. -/
theorem exec_setChannel_writing {s : State} (hp : s.phase = .ready) (ch : Fin 6) {v : Int} (h0 : 0 ≤ v)
    (h1 : v ≤ 100) :
    ∃ l, exec (.setChannel ch.val v) s = .next (writing s l) ∧
      latchesHold l (Config.chCoarseBase ch) (Config.chFineBase ch) v := by
  have hv : volumeInRange v = true := (volumeInRange_iff v).mpr ⟨h0, h1⟩
  have hc : channelIndex ch.val = some ch := (channelIndex_eq_some _ _).mpr rfl
  exact ⟨_, (exec_setChannel_accepted hp hv hc).trans (volumeWrite_eq_writing (channelPair ch) v s),
    volumeLatches_latchesHold (channelPair ch) h0 h1⟩

/-- The table of R191 is the two base tables, index by index. -/
theorem channelTable_bases :
    ∀ p ∈ ([(0, 0x80, 0x90), (1, 0x40, 0x50), (2, 0x00, 0x10), (3, 0x20, 0x30), (4, 0x60, 0x70),
            (5, 0xA0, 0xB0)] : List (Int × Byte × Byte)),
      ∃ ch : Fin 6, p = ((ch.val : Int), Config.chCoarseBase ch, Config.chFineBase ch) := by decide

/-- Settles O4. -/
theorem setMasterSendsTheMasterPair : Obligations.SetMasterSendsTheMasterPair :=
  fun _ _ hp h0 h1 => exec_setMaster_writing hp h0 h1

/-- Settles O5: the two ranges of the volume test. -/
theorem setMasterRejectsOutOfRange : Obligations.SetMasterRejectsOutOfRange := by
  intro s v hp
  refine ⟨fun hv => exec_setMaster_badVolume hp (volumeInRange_eq_false hv), fun h0 h1 => ?_⟩
  obtain ⟨l, he, -⟩ := exec_setMaster_writing hp h0 h1
  exact ⟨l, he⟩

/-- Settles O6: each row of the table is a channel with its two bases. -/
theorem setChannelSendsTheChannelPair : Obligations.SetChannelSendsTheChannelPair := by
  intro s v hp h0 h1 p hmem
  obtain ⟨ch, rfl⟩ := channelTable_bases p hmem
  exact exec_setChannel_writing hp ch h0 h1

/-! ### The frames -/

theorem kind_of_encode_frame {i : Instr} {b0 b1 : Byte} (he : encode i = .frame b0 b1) : i.kind = .frame := by
  cases i with
  | fClear | fMuteOn | fMuteOff | fMaster | fCh1 | fCh2 | fCh3 | fCh4 | fCh5 | fCh6 => rfl
  | _ => cases he

/-- A well-formed instruction encoded as a frame is the transaction of its two bytes. -/
theorem exec_of_encode_frame {i : Instr} {b0 b1 : Byte} (hw : i.wellFormed = true) (he : encode i = .frame b0 b1)
    (s : State) : exec i s = frameWrite b0 b1 s := by
  obtain ⟨c0, c1, hc, hx⟩ := exec_frame (kind_of_encode_frame he)
  rw [he] at hc
  cases hc
  rw [hx, if_pos hw]

/-- A frame other than the transaction waiting is refused (R260). -/
theorem frameWrite_notDue {b0 b1 : Byte} {s : State}
    (h : ¬ (s.phase = .write ∧ s.stage = .answerDue ∧ s.latches.coarse = b0 ∧ s.latches.fine = b1)) :
    frameWrite b0 b1 s = .refused .frameNotDue := if_neg h

/-- The transaction waiting, with no address stored, is a fault of the model (R22). -/
theorem frameWrite_noAddress {s : State} (hp : s.phase = .write) (hs : s.stage = .answerDue)
    (ha : s.addr7 = none) : frameWrite s.latches.coarse s.latches.fine s = .fault .addr7Absent := by
  simp [frameWrite, hp, hs, ha]

/-- The transaction waiting, with an address stored, reads the transport. -/
theorem frameWrite_waiting {s : State} {a : Addr7} (hp : s.phase = .write) (hs : s.stage = .answerDue)
    (ha : s.addr7 = some a) : frameWrite s.latches.coarse s.latches.fine s =
      .next (State.awaitAnswer a s.latches.coarse s.latches.fine s) := by
  simp [frameWrite, hp, hs, ha]

/-- The next sample read by the transaction waiting in `s`, to the address `a`, is the answered sample `x`, with
`rest` to come after it. -/
structure AnswerArrives (s : State) (a : Addr7) (x : TxSample) (rest : List TxSample) : Prop where
  phase_eq : s.phase = .write
  stage_eq : s.stage = .answerDue
  addr7_eq : s.addr7 = some a
  txIn_eq : s.txIn = x :: rest
  done_eq : x.done = true

/-- R216, R217: the frame in flight ends its command when the answer arrives. -/
theorem exec_frame_answered {i : Instr} {b0 b1 : Byte} {s : State} {a : Addr7} {x : TxSample}
    {rest : List TxSample} (hs : AnswerArrives s a x rest) (hw : i.wellFormed = true)
    (he : encode i = .frame b0 b1) (h0 : s.latches.coarse = b0) (h1 : s.latches.fine = b1) :
    exec i s = .next (answered s a b0 b1 x.answer rest) := by
  subst h0 h1
  rw [exec_of_encode_frame hw he, frameWrite_waiting hs.phase_eq hs.stage_eq hs.addr7_eq,
    awaitAnswer_answered hs.txIn_eq hs.done_eq]

/-- Settles O20: each frame by its encoding. -/
theorem answeredFramesEndTheCommand : Obligations.AnsweredFramesEndTheCommand := by
  intro s a x rest hp hst ha htx hd after
  have hs : AnswerArrives s a x rest := ⟨hp, hst, ha, htx, hd⟩
  refine ⟨fun h0 => ⟨exec_frame_answered hs rfl rfl h0, exec_frame_answered hs rfl rfl h0,
    exec_frame_answered hs rfl rfl h0⟩, fun t o ho => ?_⟩
  have hw : onesEmitted o = true := decide_eq_true ho
  exact ⟨exec_frame_answered hs hw rfl, exec_frame_answered hs hw rfl, exec_frame_answered hs hw rfl,
    exec_frame_answered hs hw rfl, exec_frame_answered hs hw rfl, exec_frame_answered hs hw rfl,
    exec_frame_answered hs hw rfl⟩

/-- Settles O22: the two stops of a transaction, for every frame. -/
theorem framesStopWithoutATransaction : Obligations.FramesStopWithoutATransaction := by
  intro i s b0 b1 hw he
  rw [exec_of_encode_frame hw he]
  refine ⟨frameWrite_notDue, ?_⟩
  rintro hp hs rfl rfl ha
  exact frameWrite_noAddress hp hs ha

end Sys2Proof.Proofs
end

section
/-! PROOFS. Every move of a step, said once, and what each leaves of the phase, the address and the command port (O27,
O28, O29, O31, O32, O33). -/

namespace Sys2Proof.Proofs

open Sys2Proof.Machine Sys2Proof.Safety

/-! ### The moves of a command -/

/-- What a command that goes on can do to the state it is run in, with the phase that accepts it: the rows OFF and
READY of the transition table (R24). `commandMove_of_exec` says that there is nothing else. -/
inductive CommandMove (s s' : State) : Prop
  | rejects (hp : s.phase = .off ∨ s.phase = .ready) (e : CommandError) (h : s' = State.endCommand (.err e) s)
  | constructs (hp : s.phase = .off) (a : Addr7) (ha : a ∈ legalAddr7)
      (h : s' = State.enterSettle { s with addr7 := some a, ctor := true })
  | reinitializes (hp : s.phase = .ready) (h : s' = State.enterSettle { s with ctor := false })
  | sends (hp : s.phase = .ready) (l : Latches) (hframe : frameEmitted l.coarse l.fine = true)
      (hclear : isClear l.coarse l.fine = false) (h : s' = writing s l)

/-- No frame of a target is the clear frame (R86). -/
theorem isClear_digits :
    ∀ pair ∈ targetPairs, ∀ (t : Fin 8) (o : Fin 10),
      isClear (pair.coarseBase ||| BitVec.ofInt 8 t.val) (pair.fineBase ||| BitVec.ofInt 8 o.val) = false := by
  decide +kernel

theorem isClear_volumePayload {pair : RegisterPair} (hpair : pair ∈ targetPairs) {v : Int} (h0 : 0 ≤ v)
    (h1 : v ≤ 100) :
    isClear (volumePayload pair.coarseBase pair.fineBase v).1
      (volumePayload pair.coarseBase pair.fineBase v).2 = false := by
  obtain ⟨t, ht⟩ := Int.eq_ofNat_of_zero_le (a := (100 - v) * 79 / 100 / 10) (by omega)
  obtain ⟨o, ho⟩ := Int.eq_ofNat_of_zero_le (a := (100 - v) * 79 / 100 % 10) (by omega)
  unfold volumePayload
  rw [ht, ho]
  exact isClear_digits pair hpair ⟨t, by omega⟩ ⟨o, by omega⟩

theorem storedAddress_legal : ∀ address ∈ Config.addr8Set, storedAddress address ∈ legalAddr7 := by decide

/-- A volume 0..100 sent to a target is an emitted frame and not the clear one. -/
theorem commandMove_of_volumeWrite {pair : RegisterPair} (hpair : pair ∈ targetPairs) {v : Int}
    (hv : volumeInRange v = true) {s s' : State} (hp : s.phase = .ready) (h : volumeWrite pair v s = .next s') :
    CommandMove s s' := by
  obtain ⟨h0, h1⟩ := (volumeInRange_iff v).mp hv
  have hframe := frameEmitted_volumePayload hpair h0 h1
  have hclear := isClear_volumePayload hpair h0 h1
  rw [volumeLatches_payload pair h0 h1] at hframe hclear
  rw [volumeWrite_eq_writing] at h
  cases h
  exact .sends hp _ hframe hclear rfl

theorem new_commandMove {address : Int} {tp : Bool} {s s' : State} (h : exec (.new address tp) s = .next s') :
    CommandMove s s' := by
  by_cases hp : s.phase = .off
  · cases tp with
    | false => rw [exec_new_noTransport hp] at h; cases h; exact .rejects (.inl hp) _ rfl
    | true =>
      by_cases ha : address ∈ Config.addr8Set
      · rw [exec_new_accepted hp ha] at h; cases h; exact .constructs hp _ (storedAddress_legal _ ha) rfl
      · rw [exec_new_badAddress hp ha] at h; cases h; exact .rejects (.inl hp) _ rfl
  · rw [exec_new_refused hp] at h; cases h

theorem init_commandMove {s s' : State} (h : exec .init s = .next s') : CommandMove s s' := by
  by_cases hp : s.phase = .ready
  · rw [exec_init_accepted hp] at h; cases h; exact .reinitializes hp rfl
  · rw [exec_init_refused hp] at h; cases h

theorem setMaster_commandMove {v : Int} {s s' : State} (h : exec (.setMaster v) s = .next s') :
    CommandMove s s' := by
  by_cases hp : s.phase = .ready
  · cases hv : volumeInRange v with
    | false => rw [exec_setMaster_badVolume hp hv] at h; cases h; exact .rejects (.inr hp) _ rfl
    | true =>
      rw [exec_setMaster_accepted hp hv] at h
      exact commandMove_of_volumeWrite List.mem_cons_self hv hp h
  · rw [exec_setMaster_refused hp] at h; cases h

theorem setChannel_commandMove {c v : Int} {s s' : State} (h : exec (.setChannel c v) s = .next s') :
    CommandMove s s' := by
  by_cases hp : s.phase = .ready
  · cases hv : volumeInRange v with
    | false => rw [exec_setChannel_badVolume hp c hv] at h; cases h; exact .rejects (.inr hp) _ rfl
    | true =>
      cases hc : channelIndex c with
      | none => rw [exec_setChannel_badChannel hp hv hc] at h; cases h; exact .rejects (.inr hp) _ rfl
      | some ch =>
        rw [exec_setChannel_accepted hp hv hc] at h
        exact commandMove_of_volumeWrite (List.mem_cons_of_mem _ (List.mem_ofFn.mpr ⟨ch, rfl⟩)) hv hp h
  · rw [exec_setChannel_refused hp] at h; cases h

theorem setMute_commandMove {enabled : Bool} {s s' : State} (h : exec (.setMute enabled) s = .next s') :
    CommandMove s s' := by
  by_cases hp : s.phase = .ready
  · have hframe : frameEmitted 0x00 (if enabled then 0xF9 else 0xF8) = true := by cases enabled <;> decide
    have hclear : isClear 0x00 (if enabled then 0xF9 else 0xF8) = false := by cases enabled <;> decide
    rw [exec_setMute_accepted hp] at h
    cases h
    exact .sends hp _ hframe hclear rfl
  · rw [exec_setMute_refused hp] at h; cases h

theorem commandMove_of_exec {i : Instr} {s s' : State} (hk : i.kind = .command) (h : exec i s = .next s') :
    CommandMove s s' := by
  cases i with
  | new address tp => exact new_commandMove h
  | init => exact init_commandMove h
  | setMaster v => exact setMaster_commandMove h
  | setChannel c v => exact setChannel_commandMove h
  | setMute enabled => exact setMute_commandMove h
  | _ => cases hk

/-! ### The moves of a step -/

/-- What a step that goes on can do, with the phase it starts from. `stepMove_of_next` says that there is nothing
else. -/
inductive StepMove (s s' : State) : Prop
  | resets (hr : s.resetAsserted = true) (hp : s.phase ≠ .write)
      (h : s' = { State.reset with draws := s.draws, cmdIn := s.cmdIn, txIn := s.txIn, rstIn := s.rstIn.tail,
                                   trace := s.trace, results := s.results })
  | idles (hp : s.phase = .off ∨ s.phase = .ready) (h : s' = s.nextClock)
  | counts (hp : s.phase = .settle) (ht : 1 < s.timer.toNat) (h : s' = { s.nextClock with timer := s.timer - 1 })
  | settles (hp : s.phase = .settle) (h : s' = settled s.rstIn.tail s)
  | commands (rest : List CmdWord) (h : CommandMove { s.nextClock with cmdIn := rest } s')
  | hands (hp : s.phase = .write) (st : TxStage) (h : s' = nextStage st s)
  | waits (hp : s.phase = .write) (rest : List TxSample) (h : s' = { s.nextClock with txIn := rest })
  | ends (hp : s.phase = .write) (a : Addr7) (ha : s.addr7 = some a) (t : TxStatus) (rest : List TxSample)
      (h : s' = answered s.nextClock a s.latches.coarse s.latches.fine t rest)

theorem fetchPayload_ne_idle (s : State) : fetchPayload s ≠ .idle := by
  have hne (d : Except DecodeError Instr) (r : Refusal) : fetched d r s ≠ .idle := by
    unfold fetched; split <;> nofun
  unfold fetchPayload
  split <;> exact hne _ _

theorem phase_of_fetch_idle {s : State} (h : fetch s = .idle) : s.phase = .off ∨ s.phase = .ready := by
  unfold fetch at h
  split at h
  · next hp => exact .inl hp
  · next hp => exact .inr hp
  · cases h
  · exact absurd h (fetchPayload_ne_idle s)

/-- The settle delay counts down or ends. -/
theorem stepMove_of_settleTick {s : State} (hp : s.phase = .settle) : StepMove s s.nextClock.settleTick := by
  obtain ⟨-, h⟩ | ⟨ht, h⟩ := settleTick_cases s.nextClock
  · exact .settles hp h
  · exact .counts hp ht h

/-- The transaction in flight waits for its answer or ends with it. -/
theorem stepMove_of_awaitAnswer {s : State} {a : Addr7} (hp : s.phase = .write) (ha : s.addr7 = some a) :
    StepMove s (State.awaitAnswer a s.latches.coarse s.latches.fine s.nextClock) := by
  obtain ⟨-, h⟩ | ⟨x, rest, -, -, h⟩ | ⟨x, rest, hx, hd, -⟩ :=
    awaitAnswer_cases a s.latches.coarse s.latches.fine s.nextClock
  · exact .waits hp s.txIn h
  · exact .waits hp rest h
  · exact .ends hp a ha x.answer rest (awaitAnswer_answered hx hd)

theorem stepMove_of_next {s s' : State} (h : step s = .next s') : StepMove s s' := by
  obtain ⟨hr, he⟩ | ⟨-, hf, rfl⟩ | ⟨-, hf, rfl⟩ | ⟨i, t, -, hf, he⟩ := step_eq_next h
  · obtain ⟨hp, rfl⟩ := resetEvent_eq_next he
    exact .resets hr hp rfl
  · exact .idles (phase_of_fetch_idle (s := s.nextClock) hf) rfl
  · exact stepMove_of_settleTick (phase_of_fetch_settling (s := s.nextClock) hf)
  · obtain ⟨hk, -, rest, rfl⟩ | ⟨hp, rfl, hk | hk⟩ := fetch_run_kind hf
    · exact .commands rest (commandMove_of_exec hk he)
    · obtain ⟨-, st, rfl⟩ := exec_wireByte_eq_next hk he
      exact .hands hp st rfl
    · obtain ⟨a, -, -, ha, rfl⟩ := exec_frame_eq_next hk he
      exact stepMove_of_awaitAnswer hp ha

/-! ### The phase register, the address and the command port -/

theorem commandMove_phase {s s' : State} (h : CommandMove s s') :
    (s.phase = .off ∧ (s'.phase = .off ∨ s'.phase = .settle)) ∨
    (s.phase = .ready ∧ (s'.phase = .ready ∨ s'.phase = .settle ∨ s'.phase = .write)) := by
  cases h with
  | rejects hp e h => subst h; exact hp.imp (fun hp => ⟨hp, .inl hp⟩) (fun hp => ⟨hp, .inl hp⟩)
  | constructs hp a ha h => subst h; exact .inl ⟨hp, .inr rfl⟩
  | reinitializes hp h => subst h; exact .inr ⟨hp, .inr (.inl rfl)⟩
  | sends hp l hf hc h => subst h; exact .inr ⟨hp, .inr (.inr rfl)⟩

/-- A command stores an address only where there was no controller (R21). -/
theorem commandMove_addr7 {s s' : State} (h : CommandMove s s') (hp : s.phase ≠ .off) : s'.addr7 = s.addr7 := by
  cases h with
  | rejects _ e h => subst h; rfl
  | constructs hoff a ha h => exact absurd hoff hp
  | reinitializes _ h => subst h; rfl
  | sends _ l hf hc h => subst h; rfl

theorem answered_phase_cases (s : State) (a : Addr7) (b0 b1 : Byte) (t : TxStatus) (rest : List TxSample) :
    (answered s a b0 b1 t rest).phase = .ready ∧ (answered s a b0 b1 t rest).addr7 = s.addr7 ∨
    (answered s a b0 b1 t rest).phase = .off ∧ s.ctor = true := by
  by_cases hc : s.ctor = true ∧ t ≠ .ok
  · exact .inr ⟨if_pos hc, hc.1⟩
  · exact .inl ⟨if_neg hc, if_neg hc⟩

/-- Settles O32: the phases of each move. -/
theorem phaseMovesAlongTheTable : Obligations.PhaseMovesAlongTheTable := by
  intro s s' h hr
  cases stepMove_of_next h with
  | resets hr' _ _ => rw [hr] at hr'; cases hr'
  | idles hp h => subst h; simp only [State.nextClock_phase]; obtain hp | hp := hp <;> simp [hp]
  | counts hp _ h => subst h; simp [hp]
  | settles hp h => subst h; simp [hp, settled]
  | commands rest h =>
    obtain ⟨hp, hp'⟩ | ⟨hp, hp'⟩ := commandMove_phase h
    · have hoff : s.phase = .off := hp
      simp [hoff, hp']
    · have hready : s.phase = .ready := hp
      simp [hready, hp']
  | hands hp st h => subst h; simp [hp, nextStage]
  | waits hp rest h => subst h; simp [hp]
  | ends hp a _ t rest h =>
    subst h
    obtain ⟨hp', -⟩ | ⟨hp', hc⟩ := answered_phase_cases s.nextClock a s.latches.coarse s.latches.fine t rest
    · simp [hp, hp']
    · have hctor : s.ctor = true := hc
      simp [hp, hp', hctor]

/-- Settles O28: the phase table for the way from READY, and the reset step itself. -/
theorem resetIsTheWayBackToOff : Obligations.ResetIsTheWayBackToOff := by
  refine ⟨fun s s' h hp hp' => ?_, fun s rest hrst => ?_⟩
  · by_contra hr
    obtain ⟨-, -, hready, -⟩ := phaseMovesAlongTheTable s s' h (Bool.eq_false_of_not_eq_true hr)
    simpa [hp'] using hready hp
  · have hr : s.resetAsserted = true := by simp [State.resetAsserted, hrst]
    rw [step_reset hr]
    refine ⟨fun hp => ?_, fun hp => if_pos hp⟩
    simp [State.resetEvent, hp, hrst]

/-- Settles O33: only a reset and a failed construction take the address away, and both lead to OFF. -/
theorem addressIsImmutableAfterConstruction : Obligations.AddressIsImmutableAfterConstruction := by
  intro s s' h hp hp'
  cases stepMove_of_next h with
  | resets _ _ h => subst h; exact absurd rfl hp'
  | idles _ h | counts _ _ h | settles _ h | hands _ _ h | waits _ _ h => subst h; rfl
  | commands rest h => exact (commandMove_addr7 h hp :)
  | ends _ a _ t rest h =>
    subst h
    obtain ⟨-, ha⟩ | ⟨hoff, -⟩ := answered_phase_cases s.nextClock a s.latches.coarse s.latches.fine t rest
    · exact ha
    · exact absurd hoff hp'

theorem cmdReady_iff (s : State) : s.cmdReady = true ↔ s.phase = .off ∨ s.phase = .ready := by
  unfold State.cmdReady
  cases s.phase <;> simp

/-- Settles O31: the one move that takes a command word starts from OFF or READY. -/
theorem aBusyBlockTakesNoCommand : Obligations.ABusyBlockTakesNoCommand := by
  refine ⟨cmdReady_iff, fun s s' h hbusy => ?_⟩
  have hphase : ¬ (s.phase = .off ∨ s.phase = .ready) := by rw [← cmdReady_iff, hbusy]; nofun
  cases stepMove_of_next h with
  | resets _ _ h | idles _ h | counts _ _ h | settles _ h | hands _ _ h | waits _ _ h | ends _ _ _ _ _ h =>
    subst h; rfl
  | commands rest h => exact absurd ((commandMove_phase h).imp And.left And.left) hphase

/-! ### The instruction a step runs, and the reset state -/

/-- The command port is read in OFF and READY. -/
theorem fetch_commandPort {s : State} (hp : s.phase = .off ∨ s.phase = .ready) : fetch s = fetchCommand s := by
  unfold fetch
  obtain hp | hp := hp <;> rw [hp]

theorem fetch_command {s : State} {w : CmdWord} {rest : List CmdWord} {i : Instr}
    (hp : s.phase = .off ∨ s.phase = .ready) (hw : s.cmdIn = w :: rest) (hd : decodeCommand w = .ok i) :
    fetch s = .run i { s with cmdIn := rest } := by
  rw [fetch_commandPort hp]
  simp [fetchCommand, hw, decode, hd, fetched]

/-- Settles O29: the fetch of each of the four places. -/
theorem stepRunsTheDecodedInstruction : Obligations.StepRunsTheDecodedInstruction :=
  fun s _ hr =>
    ⟨fun _ _ hp hw hd => step_run hr (fetch_command (s := s.nextClock) hp hw hd),
     fun hp hs hd => step_run hr (fetch_coarse (s := s.nextClock) hp hs hd),
     fun hp hs hd => step_run hr (fetch_fine (s := s.nextClock) hp hs hd),
     fun hp hs hd => step_run hr (fetch_frame (s := s.nextClock) hp hs hd)⟩

/-- Settles O27: each value is read out of the reset state. -/
theorem resetStateHasTheStatedValues : Obligations.ResetStateHasTheStatedValues :=
  ⟨rfl, rfl, rfl, rfl, rfl, rfl, rfl, rfl⟩

end Sys2Proof.Proofs
end

section
/-! PROOFS. The legal states: every step keeps them, and stops in them only for a command or a reset that has no
meaning (O43, O47). -/

namespace Sys2Proof.Proofs

open Sys2Proof.Machine Sys2Proof.Safety

/-! ### What a legal state is, phase by phase -/

theorem legal_off {s : State} (hp : s.phase = .off) :
    Legal s ↔ (s.ctor = false ∧ s.addr7 = none ∧ s.timer = 0) ∧
      (traceState s.trace = .unbooted ∨ traceState s.trace = .booted) ∧ pulsesLegal s ∧ s.stage = .coarseDue := by
  simp [Legal, phaseLegal, traceLegal, stageLegal, hp]

theorem legal_settle {s : State} (hp : s.phase = .settle) :
    Legal s ↔ (addressed s = true ∧ 1 ≤ s.timer.toNat ∧ s.timer.toNat ≤ Config.settleTicks) ∧
      (traceState s.trace = .booted ∨ (s.ctor = true ∧ traceState s.trace = .unbooted)) ∧ pulsesLegal s ∧
      s.stage = .coarseDue := by
  simp [Legal, phaseLegal, traceLegal, stageLegal, hp]

theorem legal_ready {s : State} (hp : s.phase = .ready) :
    Legal s ↔ (addressed s = true ∧ s.ctor = false ∧ s.timer = 0) ∧ traceState s.trace = .booted ∧
      pulsesLegal s ∧ s.stage = .coarseDue := by
  simp [Legal, phaseLegal, traceLegal, stageLegal, hp]

theorem legal_write {s : State} (hp : s.phase = .write) :
    Legal s ↔ (addressed s = true ∧ s.timer = 0 ∧ frameEmitted s.latches.coarse s.latches.fine = true ∧
        (s.ctor = true → isClear s.latches.coarse s.latches.fine = true)) ∧
      (if isClear s.latches.coarse s.latches.fine then
        traceState s.trace = .bootedDelay ∨ (s.ctor = true ∧ traceState s.trace = .unbootedDelay)
      else traceState s.trace = .booted) ∧ pulsesLegal s := by
  simp [Legal, phaseLegal, traceLegal, stageLegal, hp]

theorem addressed_iff {s : State} : addressed s = true ↔ ∃ a ∈ legalAddr7, s.addr7 = some a := by
  unfold addressed
  cases s.addr7 <;> simp

/-- With both pulses low nothing is asked of the ports. -/
theorem pulsesLegal_of_low {s : State} (ht : s.txReq = false) (hr : s.rsp = none) : pulsesLegal s := by
  simp [pulsesLegal, ht, hr]

/-- A command that ends puts its result on the port and last in the list. -/
theorem pulsesLegal_of_result {s : State} {r : Result} {rs : List Result} (ht : s.txReq = false)
    (hr : s.rsp = some r) (hrs : s.results = rs ++ [r]) : pulsesLegal s := by
  simp [pulsesLegal, ht, hr, hrs]

/-- On entry to phase WRITE `tx_req` is high. -/
theorem pulsesLegal_of_writing {s : State} (hp : s.phase = .write) (hs : s.stage = .coarseDue)
    (hr : s.rsp = none) : pulsesLegal s := by
  simp [pulsesLegal, hp, hs, hr]

/-- The pulses fall and a command word is taken. -/
theorem legal_nextClock {s : State} (hl : Legal s) (rest : List CmdWord) :
    Legal { s.nextClock with cmdIn := rest } := by
  obtain ⟨hphase, htrace, -, hstage⟩ := hl
  exact ⟨hphase, htrace, pulsesLegal_of_low rfl rfl, hstage⟩

/-! ### The trace under one more event -/

theorem traceState_append (tr : List Event) (e : Event) : traceState (tr ++ [e]) = traceNext (traceState tr) e := by
  simp [traceState]

/-- R285: the answered transaction of a legal state is one the trace checker admits, and leaves it booted but for a
failed construction, which may leave it unbooted still. -/
theorem traceState_write {s : State} (hl : Legal s) (hp : s.phase = .write) {a : Addr7} (ha : s.addr7 = some a)
    (t : TxStatus) :
    traceState (s.trace ++ [.write a s.latches.coarse s.latches.fine t]) = .booted ∨
    (s.ctor = true ∧ t ≠ .ok) ∧
      traceState (s.trace ++ [.write a s.latches.coarse s.latches.fine t]) = .unbooted := by
  obtain ⟨⟨haddr, -, hframe, -⟩, htrace, -⟩ := (legal_write hp).mp hl
  obtain ⟨b, hb, hab⟩ := addressed_iff.mp haddr
  obtain rfl : b = a := Option.some.inj (hab.symm.trans ha)
  rw [traceState_append]
  cases hclear : isClear s.latches.coarse s.latches.fine with
  | false =>
    have hboot : traceState s.trace = .booted := by simpa [hclear] using htrace
    exact .inl (by simp [hboot, traceNext, hb, hframe, hclear])
  | true =>
    obtain hboot | ⟨hctor, hboot⟩ := (if_pos hclear).mp htrace
    · exact .inl (by simp [hboot, traceNext, hb, hclear])
    · by_cases ht : t = .ok
      · exact .inl (by simp [hboot, traceNext, hb, hclear, ht])
      · exact .inr ⟨⟨hctor, ht⟩, by simp [hboot, traceNext, hb, hclear, ht]⟩

/-! ### Each move keeps the state legal -/

/-- Reset may find the trace at any point of the settle delay and between commands. -/
theorem traceState_of_not_write {s : State} (hl : Legal s) (hp : s.phase ≠ .write) :
    traceState s.trace = .unbooted ∨ traceState s.trace = .booted := by
  cases hq : s.phase with
  | off => obtain ⟨-, htrace, -⟩ := (legal_off hq).mp hl; exact htrace
  | settle => obtain ⟨-, htrace, -⟩ := (legal_settle hq).mp hl; exact htrace.symm.imp And.right id
  | ready => obtain ⟨-, htrace, -⟩ := (legal_ready hq).mp hl; exact .inr htrace
  | write => exact absurd hq hp

/-- The settle delay is entered with an address and the loaded timer. -/
theorem legal_enterSettle {s : State} (ha : addressed s = true)
    (htr : traceState s.trace = .booted ∨ (s.ctor = true ∧ traceState s.trace = .unbooted))
    (htx : s.txReq = false) (hr : s.rsp = none) (hst : s.stage = .coarseDue) : Legal s.enterSettle := by
  refine (legal_settle rfl).mpr ⟨⟨ha, ?_, ?_⟩, htr, pulsesLegal_of_low htx hr, hst⟩
  · rw [State.enterSettle_timer, Config.settleLoad_toNat]; exact Config.settleTicks_pos
  · rw [State.enterSettle_timer, Config.settleLoad_toNat]

theorem commandMove_keeps_legal {s s' : State} (hl : Legal s) (htx : s.txReq = false) (hr : s.rsp = none)
    (h : CommandMove s s') : Legal s' := by
  cases h with
  | rejects _ e h =>
    subst h
    obtain ⟨hphase, htrace, -, hstage⟩ := hl
    exact ⟨hphase, htrace, pulsesLegal_of_result htx rfl rfl, hstage⟩
  | constructs hp a ha h =>
    subst h
    obtain ⟨-, htrace, -, hstage⟩ := (legal_off hp).mp hl
    exact legal_enterSettle (addressed_iff.mpr ⟨a, ha, rfl⟩) (htrace.symm.imp id fun ht => ⟨rfl, ht⟩) htx hr hstage
  | reinitializes hp h =>
    subst h
    obtain ⟨⟨haddr, -⟩, htrace, -, hstage⟩ := (legal_ready hp).mp hl
    exact legal_enterSettle haddr (.inl htrace) htx hr hstage
  | sends hp l hframe hclear h =>
    subst h
    obtain ⟨⟨haddr, hctor, htimer⟩, htrace, -⟩ := (legal_ready hp).mp hl
    have hconstructing : (writing s l).ctor = true → isClear l.coarse l.fine = true :=
      fun hc => absurd (hctor.symm.trans hc) nofun
    refine (legal_write rfl).mpr ⟨⟨haddr, htimer, hframe, hconstructing⟩, ?_, pulsesLegal_of_writing rfl rfl hr⟩
    exact (if_neg (Bool.eq_false_iff.mp hclear)).mpr htrace

theorem counted_keeps_legal {s : State} (hl : Legal s) (hp : s.phase = .settle) (ht : 1 < s.timer.toNat) :
    Legal { s.nextClock with timer := s.timer - 1 } := by
  obtain ⟨⟨haddr, h1, hticks⟩, htrace, -, hstage⟩ := (legal_settle hp).mp hl
  have hsub := timer_sub_one_toNat h1
  exact (legal_settle (s := { s.nextClock with timer := s.timer - 1 }) hp).mpr
    ⟨⟨haddr, by simp only [hsub]; omega, by simp only [hsub]; omega⟩, htrace, pulsesLegal_of_low rfl rfl, hstage⟩

theorem settled_keeps_legal {s : State} (hl : Legal s) (hp : s.phase = .settle) (rst : List Bool) :
    Legal (settled rst s) := by
  obtain ⟨⟨haddr, -⟩, htrace, -⟩ := (legal_settle hp).mp hl
  have hframe : frameEmitted 0x00 0xC0 = true := by decide
  have hdelay : traceState (settled rst s).trace = .bootedDelay ∨
      (s.ctor = true ∧ traceState (settled rst s).trace = .unbootedDelay) := by
    obtain hboot | ⟨hctor, hboot⟩ := htrace
    · exact .inl (by simp [settled, traceState_append, hboot, traceNext])
    · exact .inr ⟨hctor, by simp [settled, traceState_append, hboot, traceNext]⟩
  exact (legal_write rfl).mpr ⟨⟨haddr, rfl, hframe, fun _ => rfl⟩, hdelay, pulsesLegal_of_writing rfl rfl rfl⟩

theorem answered_keeps_legal {s : State} (hl : Legal s) (hp : s.phase = .write) {a : Addr7}
    (ha : s.addr7 = some a) (t : TxStatus) (rest : List TxSample) :
    Legal (answered s.nextClock a s.latches.coarse s.latches.fine t rest) := by
  obtain ⟨⟨haddr, htimer, -⟩, -⟩ := (legal_write hp).mp hl
  have hpulses : pulsesLegal (answered s.nextClock a s.latches.coarse s.latches.fine t rest) :=
    pulsesLegal_of_result rfl rfl rfl
  have htrace := traceState_write hl hp ha t
  by_cases hfail : s.ctor = true ∧ t ≠ .ok
  · exact (legal_off (if_pos hfail)).mpr
      ⟨⟨rfl, if_pos hfail, htimer⟩, htrace.symm.imp And.right id, hpulses, rfl⟩
  · have haddr' : addressed (answered s.nextClock a s.latches.coarse s.latches.fine t rest) = true := by
      obtain ⟨b, hb, hab⟩ := addressed_iff.mp haddr
      exact addressed_iff.mpr ⟨b, hb, (if_neg hfail).trans hab⟩
    have hboot := htrace.resolve_right fun hunbooted => hfail hunbooted.1
    exact (legal_ready (if_neg hfail)).mpr ⟨⟨haddr', rfl, htimer⟩, hboot, hpulses, rfl⟩

/-- Settles O43, move by move. -/
theorem stepKeepsLegal : Obligations.StepKeepsLegal := by
  intro s s' hl h
  cases stepMove_of_next h with
  | resets _ hp h =>
    have htrace := traceState_of_not_write hl hp
    subst h
    exact (legal_off rfl).mpr ⟨⟨rfl, rfl, rfl⟩, htrace, pulsesLegal_of_low rfl rfl, rfl⟩
  | idles _ h => subst h; exact legal_nextClock hl s.cmdIn
  | counts hp ht h => subst h; exact counted_keeps_legal hl hp ht
  | settles hp h => subst h; exact settled_keeps_legal hl hp _
  | commands rest h => exact commandMove_keeps_legal (legal_nextClock hl rest) rfl rfl h
  | hands hp _ h | waits hp _ h =>
    subst h
    obtain ⟨hphase, htrace, -⟩ := hl
    exact ⟨hphase, htrace, pulsesLegal_of_low rfl rfl, fun hne => absurd hp hne⟩
  | ends hp a ha t rest h => subst h; exact answered_keeps_legal hl hp ha t rest

/-! ### Where a legal state stops -/

/-- The outcome is a next state, or one of the three refusals that the host causes: a command not accepted in the
phase, a reserved command word, a reset in phase WRITE (R258, R94, R281). -/
def StopsOnlyForTheHost (o : Machine.Outcome) : Prop :=
  (∃ s', o = .next s') ∨ o = .refused .notAccepted ∨ o = .refused .reservedCommand ∨ o = .refused .resetDuringWrite

theorem stopsOnlyForTheHost_next (s : State) : StopsOnlyForTheHost (.next s) := .inl ⟨s, rfl⟩

theorem exec_command_stops {i : Instr} (hk : i.kind = .command) (s : State) : StopsOnlyForTheHost (exec i s) := by
  cases commandEffect_of_kind hk s.phase with
  | refused h => rw [h s rfl]; exact .inr (.inl rfl)
  | rejected _ _ h | constructs _ _ h | settles _ h | writes _ _ _ _ _ h =>
    rw [h s rfl]; exact stopsOnlyForTheHost_next _

theorem resetEvent_stops (s : State) : StopsOnlyForTheHost s.resetEvent := by
  unfold State.resetEvent
  split
  · exact .inr (.inr (.inr rfl))
  · exact stopsOnlyForTheHost_next _

/-- The command port: nothing presented, a word without a reading, or a command. -/
theorem step_commandPort_stops {s : State} (hr : s.resetAsserted = false) (hp : s.phase = .off ∨ s.phase = .ready) :
    StopsOnlyForTheHost (step s) := by
  have hf : fetch s.nextClock = fetchCommand s.nextClock := fetch_commandPort hp
  unfold fetchCommand at hf
  split at hf
  · rw [step_idle hr hf]; exact stopsOnlyForTheHost_next _
  · next w rest _ =>
    cases hd : decodeCommand w with
    | ok i => rw [decode, hd] at hf; rw [step_run hr hf]; exact exec_command_stops (decodeCommand_kind hd) _
    | error e => rw [decode, hd] at hf; rw [step_reject hr hf]; exact .inr (.inr (.inl rfl))

/-- Phase WRITE of a legal state: the payload is emitted and addressed, so each of its parts is run and goes on
(R221, R222). -/
theorem step_payload_next {s : State} (hl : Legal s) (hr : s.resetAsserted = false) (hp : s.phase = .write) :
    ∃ s', step s = .next s' := by
  obtain ⟨⟨haddr, -, hframe, -⟩, -⟩ := (legal_write hp).mp hl
  obtain ⟨⟨hb0, hpos0⟩, hb1, hpos1⟩ := bytes_of_frameEmitted hframe
  cases hs : s.stage with
  | coarseDue =>
    obtain ⟨i, hd, hx⟩ := exec_of_byteEmitted hb0
    rw [step_run hr (fetch_coarse (s := s.nextClock) hp hs hd), hx, handByte_coarse hpos0]
    exact ⟨_, if_pos ⟨hp, hs, rfl⟩⟩
  | fineDue =>
    obtain ⟨i, hd, hx⟩ := exec_of_byteEmitted hb1
    rw [step_run hr (fetch_fine (s := s.nextClock) hp hs hd), hx, handByte_fine hpos1]
    exact ⟨_, if_pos ⟨hp, hs, rfl⟩⟩
  | answerDue =>
    obtain ⟨i, hd, hx⟩ := exec_of_frameEmitted hframe
    obtain ⟨a, -, ha⟩ := addressed_iff.mp haddr
    rw [step_run hr (fetch_frame (s := s.nextClock) hp hs hd), hx]
    exact ⟨_, frameWrite_waiting (s := s.nextClock) hp hs ha⟩

theorem legal_step_stops {s : State} (hl : Legal s) : StopsOnlyForTheHost (step s) := by
  cases hr : s.resetAsserted with
  | true => rw [step_reset hr]; exact resetEvent_stops _
  | false =>
    cases hp : s.phase with
    | off => exact step_commandPort_stops hr (.inl hp)
    | ready => exact step_commandPort_stops hr (.inr hp)
    | settle => rw [step_settling hr (fetch_settle hp)]; exact stopsOnlyForTheHost_next _
    | write => exact .inl (step_payload_next hl hr hp)

/-- Settles O47: the outcomes of a step from a legal state. -/
theorem legalStatesStopOnlyForTheHost : Obligations.LegalStatesStopOnlyForTheHost := by
  intro s hl
  obtain ⟨s', h⟩ | h | h | h := legal_step_stops hl <;> rw [h] <;> simp

end Sys2Proof.Proofs
end

section
/-! PROOFS. The length of the settle delay (O25). -/

namespace Sys2Proof.Proofs

open Sys2Proof.Machine Sys2Proof.Safety

/-- From SETTLE with `TIMER` at n, fewer than n steps stay in SETTLE and are silent. -/
theorem run_settling (k : Nat) : ∀ s : State, s.phase = .settle → k < s.timer.toNat → noReset s →
    ∃ s', Host.Core.run core k s = .next s' ∧ s'.phase = .settle ∧ s'.trace = s.trace ∧ s'.results = s.results := by
  induction k with
  | zero => intro s hp _ _; exact ⟨s, rfl, hp, rfl, rfl⟩
  | succ k ih =>
    intro s hp hk hr
    have hstep := (step_settle hp hr).2 (by omega)
    have htimer : k < (s.timer - 1).toNat := by rw [timer_sub_one_toNat (by omega)]; omega
    rw [run_next k _ _ hstep]
    exact ih { s.nextClock with timer := s.timer - 1 } hp htimer (noReset_of_rstIn_tail hr rfl)

/-- Settles O25: the silent steps, and the one that ends the delay. -/
theorem settleLastsTimerSteps : Obligations.SettleLastsTimerSteps := by
  intro s hp h1 hr
  refine ⟨fun k hk => run_settling k s hp hk hr, ?_⟩
  obtain ⟨n, hn⟩ := Nat.exists_eq_add_of_le' h1
  rw [hn]
  exact run_settle n s hp hn hr

end Sys2Proof.Proofs
end

section
/-! PROOFS. The payload in flight: the hand-over of its two bytes, the wait for the answer, and the ports in phase
WRITE (O8, O15, O16, O17, O18, O21, O23, O24, O35). -/

namespace Sys2Proof.Proofs

open Sys2Proof.Machine Sys2Proof.Safety

/-! ### SET_MUTE and the answers -/

/-- Settles O8: the accepted SET_MUTE, for each operand. -/
theorem setMuteSendsOneOfTwoFrames : Obligations.SetMuteSendsOneOfTwoFrames :=
  fun _ hp => ⟨exec_setMute_accepted hp true, exec_setMute_accepted hp false⟩

/-- Settles O23: the three answers, and the four codes of `tx_status`. -/
theorem transportAnswersAreTranslated : Obligations.TransportAnswersAreTranslated := by
  refine ⟨fun _ => ⟨rfl, rfl, rfl⟩, fun x => ⟨?_, ?_, ?_, ?_⟩⟩ <;>
    (intro hcode; simp [TxSample.answer, hcode])

/-! ### The hand-over of a byte -/

/-- R53: a 10 dB op-code that is byte 0, with byte 0 due, is handed over. -/
theorem handCoarse_due {s : State} {base : Byte} {k : Nibble} (hp : s.phase = .write) (hs : s.stage = .coarseDue)
    (hk : k ≤ 7) (hb : s.latches.coarse = stepByte base k) :
    handCoarse base k s = .next { s with stage := .fineDue } := by
  rw [handCoarse, if_neg (BitVec.not_lt.mpr hk), if_pos ⟨hp, hs, hb⟩]

/-- R53: the byte that is byte 1, with byte 1 due, is handed over. -/
theorem handFineByte_due {s : State} {b : Byte} (hp : s.phase = .write) (hs : s.stage = .fineDue)
    (hb : s.latches.fine = b) : handFineByte b s = .next { s with stage := .answerDue } :=
  if_pos ⟨hp, hs, hb⟩

/-- A 1 dB op-code with an emitted step is handed over as any byte 1 is. -/
theorem handFine_due {s : State} {base : Byte} {k : Nibble} (hp : s.phase = .write) (hs : s.stage = .fineDue)
    (hk : k ≤ 9) (hb : s.latches.fine = stepByte base k) :
    handFine base k s = .next { s with stage := .answerDue } := by
  rw [handFine, if_neg (BitVec.not_lt.mpr hk), handFineByte_due hp hs hb]

/-- Settles O15: each 10 dB op-code is its target's coarse base handed over. -/
theorem tenDecibelOpcodesAreByteZero : Obligations.TenDecibelOpcodesAreByteZero :=
  fun _ _ hp hs hk =>
    ⟨handCoarse_due hp hs hk, handCoarse_due hp hs hk, handCoarse_due hp hs hk, handCoarse_due hp hs hk,
     handCoarse_due hp hs hk, handCoarse_due hp hs hk, handCoarse_due hp hs hk⟩

/-- Settles O16: each 1 dB op-code is its target's fine base handed over. -/
theorem oneDecibelOpcodesAreByteOne : Obligations.OneDecibelOpcodesAreByteOne :=
  fun _ _ hp hs hk =>
    ⟨handFine_due hp hs hk, handFine_due hp hs hk, handFine_due hp hs hk, handFine_due hp hs hk,
     handFine_due hp hs hk, handFine_due hp hs hk, handFine_due hp hs hk⟩

/-- Settles O17: each control code is a byte 1 handed over. -/
theorem controlCodesAreByteOne : Obligations.ControlCodesAreByteOne :=
  fun _ hp hs => ⟨handFineByte_due hp hs, handFineByte_due hp hs, handFineByte_due hp hs⟩

/-- Settles O18: a wire op-code that goes on is well formed, so it hands over the byte it encodes to. -/
theorem onlyTheByteDueIsHandedOver : Obligations.OnlyTheByteDueIsHandedOver := by
  intro i s s' hk h
  obtain ⟨b, hb, he⟩ := exec_wireByte hk
  rw [he] at h
  split at h
  · obtain ⟨hp, ⟨hs, rfl, hnext⟩ | ⟨hs, rfl, hnext⟩⟩ := handByte_eq_next h
    · exact ⟨hp, .inl ⟨hs, hb, hnext⟩⟩
    · exact ⟨hp, .inr ⟨hs, hb, hnext⟩⟩
  · cases h

/-! ### The wait for the answer -/

/-- Settles O21: the transaction waiting reads silence, or a sample without an answer. -/
theorem unansweredFramesWait : Obligations.UnansweredFramesWait := by
  intro i s a hp hs ha hw he
  rw [exec_of_encode_frame hw he, frameWrite_waiting hp hs ha]
  exact ⟨fun hx => by rw [awaitAnswer_silent hx], fun x rest hx hd => by rw [awaitAnswer_unanswered hx hd]⟩

/-- Phase WRITE with an address and an emitted payload, before a transport that never answers and with no reset to
come (R292). -/
structure Unanswered (a : Addr7) (s : State) : Prop where
  phase_eq : s.phase = .write
  addr7_eq : s.addr7 = some a
  emitted : frameEmitted s.latches.coarse s.latches.fine = true
  silent : ∀ x ∈ s.txIn, x.done = false
  no_reset : noReset s

/-- R219: an unanswered transaction goes on, with a later stage or with a sample read, and stays unanswered. -/
theorem step_unanswered {a : Addr7} {s : State} (h : Unanswered a s) :
    ∃ st rest, step s = .next { s.nextClock with stage := st, txIn := rest } ∧ ∀ x ∈ rest, x.done = false := by
  obtain ⟨hp, ha, he, hx, hr⟩ := h
  cases hs : s.stage with
  | coarseDue => exact ⟨.fineDue, s.txIn, step_coarseDue hp hs hr he, hx⟩
  | fineDue => exact ⟨.answerDue, s.txIn, step_fineDue hp hs hr he, hx⟩
  | answerDue =>
    rw [step_answerDue hp hs ha hr he]
    cases htx : s.txIn with
    | nil => exact ⟨s.stage, s.txIn, congrArg _ (awaitAnswer_silent (s := s.nextClock) htx), hx⟩
    | cons x rest =>
      rw [htx, List.forall_mem_cons] at hx
      exact ⟨s.stage, rest, congrArg _ (awaitAnswer_unanswered (s := s.nextClock) htx hx.1), hx.2⟩

/-- R292: any number of steps leaves an unanswered transaction unanswered, and the observation and the commands
presented as they were. -/
theorem run_unanswered {a : Addr7} (k : Nat) : ∀ s : State, Unanswered a s →
    ∃ s', Host.Core.run core k s = .next s' ∧ Unanswered a s' ∧ s'.trace = s.trace ∧ s'.results = s.results ∧
      s'.cmdIn = s.cmdIn := by
  induction k with
  | zero => exact fun s h => ⟨s, rfl, h, rfl, rfl, rfl⟩
  | succ k ih =>
    intro s h
    obtain ⟨st, rest, hstep, hrest⟩ := step_unanswered h
    rw [run_next k _ _ hstep]
    exact ih { s.nextClock with stage := st, txIn := rest }
      ⟨h.phase_eq, h.addr7_eq, h.emitted, hrest, noReset_of_rstIn_tail h.no_reset rfl⟩

/-- Settles O24: the unanswered transaction stays so, and phase WRITE is busy. -/
theorem aSilentTransportHangs : Obligations.ASilentTransportHangs := by
  intro k s a hp ha he hx hr
  obtain ⟨s', hrun, h', htrace, hresults, hcmd⟩ := run_unanswered k s ⟨hp, ha, he, hx, hr⟩
  refine ⟨s', hrun, h'.phase_eq, h'.addr7_eq, htrace, hresults, hcmd, ?_⟩
  simp [State.cmdReady, h'.phase_eq]

/-! ### The transport port -/

/-- A step within phase WRITE hands over a byte or waits: it moves the stage or the samples to come, and no more. -/
theorem step_within_write {s s' : State} (h : step s = .next s') (hp : s.phase = .write) (hp' : s'.phase = .write) :
    ∃ st rest, s' = { s.nextClock with stage := st, txIn := rest } := by
  cases stepMove_of_next h with
  | resets _ hne _ => exact absurd hp hne
  | idles hidle _ => simp [hp] at hidle
  | counts hsettle _ _ | settles hsettle _ => simp [hp] at hsettle
  | commands rest h =>
    obtain ⟨hoff, -⟩ | ⟨hready, -⟩ := commandMove_phase h
    · exact absurd (hp.symm.trans hoff) nofun
    · exact absurd (hp.symm.trans hready) nofun
  | hands _ st h => exact ⟨st, s.txIn, h⟩
  | waits _ rest h => exact ⟨s.stage, rest, h⟩
  | ends _ a _ t rest h => subst h; exact absurd hp' (answered_phase_ne_write _ _ _ _ _ _)

/-- Settles O35: neither the stage nor a sample is on the transport port. -/
theorem transportPortIsStable : Obligations.TransportPortIsStable := by
  intro s s' h hp hp'
  obtain ⟨st, rest, rfl⟩ := step_within_write h hp hp'
  exact ⟨rfl, rfl, rfl, rfl⟩

end Sys2Proof.Proofs
end

section
/-! PROOFS. The boot order over every run, of the first controller and of each later one (O44). -/

namespace Sys2Proof.Proofs

open Sys2Proof.Machine Sys2Proof.Safety

/-! ### Legal runs -/

/-- The run form of O43. -/
theorem run_keeps_legal (k : Nat) : ∀ s s' : State, Legal s → Host.Core.run core k s = .next s' → Legal s' := by
  induction k with
  | zero => intro s s' hl h; cases h; exact hl
  | succ k ih =>
    intro s s' hl h
    simp only [Host.Core.run] at h
    split at h
    · next t hstep => exact ih t s' (stepKeepsLegal s t hl hstep) h
    · cases h
    · cases h

/-- R285: no legal state's trace violates the order. -/
theorem traceState_ne_violated {s : State} (hl : Legal s) : traceState s.trace ≠ .violated := by
  cases hp : s.phase with
  | off => obtain ⟨-, ht | ht, -⟩ := (legal_off hp).mp hl <;> simp [ht]
  | settle => obtain ⟨-, ht | ⟨-, ht⟩, -⟩ := (legal_settle hp).mp hl <;> simp [ht]
  | ready => obtain ⟨-, ht, -⟩ := (legal_ready hp).mp hl; simp [ht]
  | write =>
    obtain ⟨-, ht, -⟩ := (legal_write hp).mp hl
    split at ht
    · obtain ht | ⟨-, ht⟩ := ht <;> simp [ht]
    · simp [ht]

/-! ### The past of a trace carries nothing -/

/-- `s` with the events `past` before its own. -/
def withPast (past : List Event) (s : State) : State := { s with trace := past ++ s.trace }

/-- The outcome, with the events `past` before those of its next state. -/
def outcomeWithPast (past : List Event) : Machine.Outcome → Machine.Outcome
  | .next s => .next (withPast past s)
  | .fault f => .fault f
  | .refused r => .refused r

/-- What is fetched, with the events `past` before those of the state it is run in. -/
def fetchWithPast (past : List Event) : Fetch → Fetch
  | .run i s => .run i (withPast past s)
  | .idle => .idle
  | .settling => .settling
  | .reject r => .reject r

theorem resetEvent_withPast (past : List Event) (s : State) :
    (withPast past s).resetEvent = outcomeWithPast past s.resetEvent := by
  unfold State.resetEvent
  rw [apply_ite (outcomeWithPast past)]
  rfl

theorem settleTick_withPast (past : List Event) (s : State) :
    (withPast past s).settleTick = withPast past s.settleTick := by
  unfold State.settleTick
  rw [apply_ite (withPast past)]
  refine if_congr Iff.rfl ?_ rfl
  simp [withPast, State.enterWrite]

/-- A command neither reads the trace nor adds to it. -/
theorem exec_command_withPast {i : Instr} (hk : i.kind = .command) (past : List Event) (s : State) :
    exec i (withPast past s) = outcomeWithPast past (exec i s) := by
  cases commandEffect_of_kind hk s.phase with
  | refused h | rejected _ _ h | constructs _ _ h | settles _ h | writes _ _ _ _ _ h =>
    rw [h s rfl, h (withPast past s) rfl]; rfl

theorem handByte_withPast (b : Byte) (past : List Event) (s : State) :
    handByte b (withPast past s) = outcomeWithPast past (handByte b s) := by
  unfold handByte handFineByte
  split <;> (rw [apply_ite (outcomeWithPast past)]; rfl)

/-- The answer puts its `Write` after the trace, whatever the trace is. -/
theorem answered_withPast (past : List Event) (s : State) (a : Addr7) (b0 b1 : Byte) (t : TxStatus)
    (rest : List TxSample) :
    answered (withPast past s) a b0 b1 t rest = withPast past (answered s a b0 b1 t rest) :=
  congrArg (fun tr => { answered s a b0 b1 t rest with trace := tr })
    (List.append_assoc past s.trace [.write a b0 b1 t])

theorem awaitAnswer_withPast (a : Addr7) (b0 b1 : Byte) (past : List Event) (s : State) :
    State.awaitAnswer a b0 b1 (withPast past s) = withPast past (State.awaitAnswer a b0 b1 s) := by
  have hin : (withPast past s).txIn = s.txIn := rfl
  cases hx : s.txIn with
  | nil => rw [awaitAnswer_silent hx, awaitAnswer_silent (hin.trans hx)]
  | cons x rest =>
    cases hd : x.done with
    | false => rw [awaitAnswer_unanswered hx hd, awaitAnswer_unanswered (hin.trans hx) hd]; rfl
    | true => rw [awaitAnswer_answered hx hd, awaitAnswer_answered (hin.trans hx) hd, answered_withPast]

theorem frameWrite_withPast (b0 b1 : Byte) (past : List Event) (s : State) :
    frameWrite b0 b1 (withPast past s) = outcomeWithPast past (frameWrite b0 b1 s) := by
  have ha : (withPast past s).addr7 = s.addr7 := rfl
  unfold frameWrite
  rw [apply_ite (outcomeWithPast past), ha]
  refine if_congr Iff.rfl ?_ rfl
  cases s.addr7 with
  | none => rfl
  | some a => exact congrArg Host.Outcome.next (awaitAnswer_withPast a b0 b1 past s)

theorem exec_withPast (i : Instr) (past : List Event) (s : State) :
    exec i (withPast past s) = outcomeWithPast past (exec i s) := by
  cases hk : i.kind with
  | command => exact exec_command_withPast hk past s
  | wireByte =>
    obtain ⟨b, -, he⟩ := exec_wireByte hk
    rw [he, he, handByte_withPast, apply_ite (outcomeWithPast past)]
    rfl
  | frame =>
    obtain ⟨b0, b1, -, he⟩ := exec_frame hk
    rw [he, he, frameWrite_withPast, apply_ite (outcomeWithPast past)]
    rfl

theorem fetched_withPast (d : Except DecodeError Instr) (r : Refusal) (past : List Event) (s : State) :
    fetched d r (withPast past s) = fetchWithPast past (fetched d r s) := by
  cases d <;> rfl

theorem fetchCommand_withPast (past : List Event) (s : State) :
    fetchCommand (withPast past s) = fetchWithPast past (fetchCommand s) := by
  have hc : (withPast past s).cmdIn = s.cmdIn := rfl
  unfold fetchCommand
  rw [hc]
  cases s.cmdIn with
  | nil => rfl
  | cons w rest => exact fetched_withPast _ _ past { s with cmdIn := rest }

theorem fetchPayload_withPast (past : List Event) (s : State) :
    fetchPayload (withPast past s) = fetchWithPast past (fetchPayload s) := by
  have hs : (withPast past s).stage = s.stage := rfl
  unfold fetchPayload
  rw [hs]
  cases s.stage <;> exact fetched_withPast _ _ past s

theorem fetch_withPast (past : List Event) (s : State) :
    fetch (withPast past s) = fetchWithPast past (fetch s) := by
  have hp : (withPast past s).phase = s.phase := rfl
  unfold fetch
  rw [hp]
  cases s.phase with
  | off | ready => exact fetchCommand_withPast past s
  | settle => rfl
  | write => exact fetchPayload_withPast past s

/-- No step reads the trace, and none drops an event of it. -/
theorem step_withPast (past : List Event) (s : State) :
    step (withPast past s) = outcomeWithPast past (step s) := by
  have hrst : (withPast past s).resetAsserted = s.resetAsserted := rfl
  have hclock : (withPast past s).nextClock = withPast past s.nextClock := rfl
  cases hr : s.resetAsserted with
  | true => rw [step_reset hr, step_reset (hrst.trans hr), hclock, resetEvent_withPast]
  | false =>
    have hfetch : fetch (withPast past s).nextClock = fetchWithPast past (fetch s.nextClock) := by
      rw [hclock, fetch_withPast]
    rw [hr] at hrst
    cases hf : fetch s.nextClock with rw [hf] at hfetch
    | idle => rw [step_idle hr hf, step_idle hrst hfetch]; rfl
    | settling => rw [step_settling hr hf, step_settling hrst hfetch, hclock, settleTick_withPast]; rfl
    | run i t => rw [step_run hr hf, step_run hrst hfetch, exec_withPast]
    | reject r => rw [step_reject hr hf, step_reject hrst hfetch]; rfl

/-- A run goes the same whatever events stood in the trace before. -/
theorem run_withPast (past : List Event) (k : Nat) : ∀ s : State,
    Host.Core.run core k (withPast past s) = outcomeWithPast past (Host.Core.run core k s) := by
  induction k with
  | zero => exact fun s => rfl
  | succ k ih =>
    intro s
    have hstep : core.step (withPast past s) = outcomeWithPast past (core.step s) := step_withPast past s
    simp only [Host.Core.run, hstep]
    cases core.step s with
    | next t => exact ih t
    | fault f => rfl
    | refused r => rfl

/-! ### Every construction -/

/-- In OFF nothing is constructed: with its past forgotten the state is as legal as before. -/
theorem legal_off_without_past {s : State} (hl : Legal s) (hp : s.phase = .off) : Legal { s with trace := [] } := by
  obtain ⟨hphase, -, hpulses, hstage⟩ := (legal_off hp).mp hl
  exact (legal_off (s := { s with trace := [] }) hp).mpr ⟨hphase, .inl rfl, hpulses, hstage⟩

/-- The events that a run from OFF appends are the trace of the same run begun without a past. -/
theorem run_from_off {k : Nat} {s s' : State} (hl : Legal s) (hp : s.phase = .off)
    (h : Host.Core.run core k s = .next s') : ∃ t, Legal t ∧ s'.trace = s.trace ++ t.trace := by
  have hs : withPast s.trace { s with trace := [] } = s := by simp [withPast]
  rw [← hs, run_withPast] at h
  generalize hrun : Host.Core.run core k { s with trace := [] } = o at h
  cases o with
  | next t =>
    cases h
    exact ⟨t, run_keeps_legal k _ t (legal_off_without_past hl hp) hrun, rfl⟩
  | fault f => cases h
  | refused r => cases h

/-- Settles O44: a run keeps the state legal, and one from OFF goes as it does without a past. -/
theorem noRunViolatesTheTraceOrder : Obligations.NoRunViolatesTheTraceOrder := by
  refine ⟨fun k s s' hl h => traceState_ne_violated (run_keeps_legal k s s' hl h), fun k s s' hl hp h => ?_⟩
  obtain ⟨t, ht, htrace⟩ := run_from_off hl hp h
  exact ⟨t.trace, htrace, traceState_ne_violated ht⟩

end Sys2Proof.Proofs
end

section
/-! PROOFS. The encodings: decoding and encoding invert each other; the words and steps that mean nothing (O19, O37 to
O41). -/

namespace Sys2Proof.Proofs

open Sys2Proof.Machine Sys2Proof.Safety

/-! ### Bits under the mask of a row -/

/-- Bits that fit one row do not fit another whose value differs where both masks look. -/
theorem ne_of_mask {n : Nat} {w m a m' a' : BitVec n} (h : w &&& m = a) (hne : a &&& m' ≠ a' &&& m) :
    w &&& m' ≠ a' := by
  rintro rfl
  exact hne (by rw [← h, BitVec.and_assoc, BitVec.and_assoc, BitVec.and_comm m m'])

/-- Bits are what a row fixes of them and what its operand fields hold. -/
theorem or_and_of_masks {n : Nat} {w m a r : BitVec n} (h : w &&& m = a) (hmr : m ||| r = BitVec.allOnes n) :
    a ||| (w &&& r) = w := by
  rw [← h, ← BitVec.and_or_distrib_left, hmr, BitVec.and_allOnes]

/-- A mask within another sees what the other leaves. -/
theorem and_of_wider_mask {n : Nat} {w m a m' : BitVec n} (h : w &&& m = a) (hm : m &&& m' = m') :
    w &&& m' = a &&& m' := by
  rw [← h, BitVec.and_assoc, hm]

/-! ### Command words: from an instruction to its word -/

theorem decodeCommand_new {w : CmdWord} (h : w &&& 0xFE00 = 0x0000) :
    decodeCommand w = .ok (.new (fieldAddress w) (fieldTp w)) := if_pos h

theorem decodeCommand_setMaster {w : CmdWord} (h : w &&& 0xFF00 = 0x4000) :
    decodeCommand w = .ok (.setMaster (fieldVolume w)) := by
  unfold decodeCommand
  rw [if_neg (ne_of_mask h (by decide)), if_neg (ne_of_mask h (by decide)), if_pos h]

theorem decodeCommand_setChannel {w : CmdWord} (h : w &&& 0xF000 = 0x6000) :
    decodeCommand w = .ok (.setChannel (fieldChannel w) (fieldVolume w)) := by
  unfold decodeCommand
  rw [if_neg (ne_of_mask h (by decide)), if_neg (ne_of_mask h (by decide)), if_neg (ne_of_mask h (by decide)),
    if_pos h]

/-- The field in bits 7..0, laid beside bits 15..8, is read back, and those bits with it. -/
theorem lowField_over {high : CmdWord} (h : high &&& 0xFF00 = high) (v : Int) :
    (high ||| lowField v) &&& 0xFF00 = high ∧ (high ||| lowField v).extractLsb' 0 8 = BitVec.ofInt 8 v := by
  have hbyte : ∀ b : Byte, b.setWidth 16 &&& 0xFF00 = (0 : CmdWord) ∧ (b.setWidth 16).extractLsb' 0 8 = b := by
    decide +kernel
  obtain ⟨hmask, hlow⟩ := hbyte (BitVec.ofInt 8 v)
  have hempty : high.extractLsb' 0 8 = 0 := by
    rw [← h]
    ext i hi
    interval_cases i <;> simp
  constructor
  · rw [BitVec.and_or_distrib_right, h, lowField, hmask]
    exact BitVec.or_zero
  · rw [BitVec.extractLsb'_or, hempty, lowField, hlow]
    exact BitVec.zero_or

theorem fieldAddress_of_low {w : CmdWord} {a : Int} (h : w.extractLsb' 0 8 = BitVec.ofInt 8 a)
    (hf : addressFits a = true) : fieldAddress w = a := by
  simp only [Bool.and_eq_true, decide_eq_true_eq] at hf
  rw [fieldAddress, h]
  exact toNat_ofInt_of_lt hf.1 (by omega)

theorem fieldVolume_of_low {w : CmdWord} {v : Int} (h : w.extractLsb' 0 8 = BitVec.ofInt 8 v)
    (hf : volumeFits v = true) : fieldVolume w = v := by
  simp only [Bool.and_eq_true, decide_eq_true_eq] at hf
  rw [fieldVolume, h]
  exact BitVec.toInt_ofInt_eq_self (by decide) (by omega) (by omega)

theorem fieldTp_eq_high (w : CmdWord) : fieldTp w = fieldTp (w &&& 0xFF00) := by
  simp [fieldTp]

theorem fieldChannel_eq_high (w : CmdWord) : fieldChannel w = fieldChannel (w &&& 0xFF00) := by
  unfold fieldChannel
  congr 1
  ext i hi
  interval_cases i <;> simp

/-- Bits 15..8 of a SET_CHANNEL word: the op-code and the channel field. -/
theorem channelField_bits (c : Int) :
    (0x6000 ||| channelField c) &&& 0xFF00 = 0x6000 ||| channelField c ∧
    (0x6000 ||| channelField c) &&& 0xF000 = 0x6000 ∧
    (0x6000 ||| channelField c).extractLsb' 8 4 = BitVec.ofInt 4 c := by
  unfold channelField
  generalize BitVec.ofInt 4 c = k
  revert k
  decide +kernel

theorem decode_encode_new {a : Int} (tp : Bool) (ha : addressFits a = true) :
    decode (encode (.new a tp)) = .ok (.new a tp) := by
  have hhigh : (if tp then 0x0100 else 0x0000 : CmdWord) &&& 0xFF00 = if tp then 0x0100 else 0x0000 := by
    cases tp <;> rfl
  obtain ⟨hmask, hlow⟩ := lowField_over hhigh a
  have hrow : ((if tp then 0x0100 else 0x0000) ||| lowField a) &&& 0xFE00 = 0x0000 := by
    rw [and_of_wider_mask hmask (by decide)]
    cases tp <;> rfl
  refine (decodeCommand_new hrow).trans ?_
  rw [fieldAddress_of_low hlow ha, fieldTp_eq_high, hmask]
  cases tp <;> rfl

theorem decode_encode_setMaster {v : Int} (hv : volumeFits v = true) :
    decode (encode (.setMaster v)) = .ok (.setMaster v) := by
  obtain ⟨hmask, hlow⟩ := lowField_over (high := 0x4000) (by decide) v
  refine (decodeCommand_setMaster hmask).trans ?_
  rw [fieldVolume_of_low hlow hv]

theorem decode_encode_setChannel {c v : Int} (hc : channelFits c = true) (hv : volumeFits v = true) :
    decode (encode (.setChannel c v)) = .ok (.setChannel c v) := by
  obtain ⟨hhigh, hop, hch⟩ := channelField_bits c
  obtain ⟨hmask, hlow⟩ := lowField_over hhigh v
  have hrow : (0x6000 ||| channelField c ||| lowField v) &&& 0xF000 = 0x6000 :=
    (and_of_wider_mask hmask (by decide)).trans hop
  refine (decodeCommand_setChannel hrow).trans ?_
  simp only [Bool.and_eq_true, decide_eq_true_eq] at hc
  rw [fieldVolume_of_low hlow hv, fieldChannel_eq_high, hmask, fieldChannel, hch,
    BitVec.toInt_ofInt_eq_self (by decide) (by omega) (by omega)]

/-! ### Command words: from a word to its instruction -/

theorem lowField_fieldAddress (w : CmdWord) : lowField (fieldAddress w) = w &&& 0x00FF := by
  rw [lowField, fieldAddress, BitVec.ofInt_natCast, BitVec.ofNat_toNat, BitVec.setWidth_eq, word_low_byte]

theorem lowField_fieldVolume (w : CmdWord) : lowField (fieldVolume w) = w &&& 0x00FF := by
  rw [lowField, fieldVolume, BitVec.ofInt_toInt, word_low_byte]

theorem channelField_fieldChannel (w : CmdWord) : channelField (fieldChannel w) = w &&& 0x0F00 := by
  rw [channelField, fieldChannel, BitVec.ofInt_toInt, word_channel_bits]

theorem encode_of_decodeCommand {w : CmdWord} {i : Instr} (h : decodeCommand w = .ok i) :
    encode i = .command w := by
  unfold decodeCommand at h
  split_ifs at h with hnew hinit hmaster hchannel hmute <;> cases h <;> refine congrArg Encoded.command ?_
  · rw [lowField_fieldAddress, fieldTp, ← word_bit8, ← BitVec.and_or_distrib_left]
    simpa using or_and_of_masks hnew (by decide : (0xFE00 : CmdWord) ||| 0x01FF = _)
  · exact hinit.symm.trans (BitVec.and_allOnes (x := w))
  · rw [lowField_fieldVolume]
    exact or_and_of_masks hmaster (by decide)
  · rw [channelField_fieldChannel, lowField_fieldVolume, BitVec.or_assoc, ← BitVec.and_or_distrib_left]
    exact or_and_of_masks hchannel (by decide)
  · have hbit : (if fieldEnabled w then 0x8001 else 0x8000 : CmdWord) = 0x8000 ||| (w &&& 0x0001) := by
      rw [word_bit0]; unfold fieldEnabled; split <;> rfl
    rw [hbit]
    exact or_and_of_masks hmute (by decide)

/-! ### Wire op-codes and frames -/

/-- An op-code nibble of one of the fourteen registers is none of a control code. -/
theorem not_control_of_base {b : Byte} (h : b &&& 0xF0 ∈ coarseBases ++ fineBases) :
    b ≠ 0xC0 ∧ b ≠ 0xF9 ∧ b ≠ 0xF8 := by
  refine ⟨?_, ?_, ?_⟩ <;> (rintro rfl; revert h; decide)

/-- The bases of R23 leave the low nibble to the step. -/
theorem base_low_nibble : ∀ base ∈ coarseBases ++ fineBases, base &&& 0x0F = 0 := by decide +kernel

/-- A tens digit laid over a coarse base is read back, and the base with it. -/
theorem tensByte_fields : ∀ base ∈ coarseBases, ∀ t : BitVec 3,
    fieldTens (base ||| t.setWidth 8) = t ∧ (base ||| t.setWidth 8) &&& 0xF8 = base := by decide +kernel

/-- An op-code of format S is decoded by its row alone: the row's base and the step. -/
theorem decode_stepByte {base : Byte} {op : Nibble → Instr} (hb : base ∈ coarseBases ++ fineBases)
    (hrow : ∀ b : Byte, b &&& 0xF0 = base → b ≠ 0xC0 ∧ b ≠ 0xF9 ∧ b ≠ 0xF8 →
      decodeWire b = .ok (op (fieldStep b))) (k : Nibble) :
    decode (.wire (stepByte base k)) = .ok (op k) := by
  obtain ⟨hstep, hbase⟩ := stepByte_fields base k (base_low_nibble base hb)
  have h := hrow (stepByte base k) hbase (not_control_of_base (hbase.symm ▸ hb))
  rwa [hstep] at h

/-- A frame of shape V is decoded by its row alone: the two bases of one target and the digits. -/
theorem decode_volumeFrame {c f : Byte} {op : BitVec 3 → Nibble → Instr} (hc : c ∈ coarseBases)
    (hf : f ∈ fineBases)
    (hrow : ∀ b0 b1 : Byte, b0 &&& 0xF8 = c → b1 &&& 0xF0 = f → b1 ≠ 0xC0 ∧ b1 ≠ 0xF9 ∧ b1 ≠ 0xF8 →
      decodeFrame b0 b1 = .ok (op (fieldTens b0) (fieldStep b1))) (t : BitVec 3) (o : Nibble) :
    decode (volumeFrame c f t o) = .ok (op t o) := by
  have hf' := List.mem_append_right coarseBases hf
  obtain ⟨htens, hcoarse⟩ := tensByte_fields c hc t
  obtain ⟨hones, hfine⟩ := stepByte_fields f o (base_low_nibble f hf')
  have h := hrow _ _ hcoarse hfine (not_control_of_base (hfine.symm ▸ hf'))
  rwa [htens, hones] at h

/-! ### Each encoding inverts the other -/

/-- Settles O37: an instruction's operands lie in the fields its row reads, and no other row fits its bits. -/
theorem decodeInvertsEncode : Obligations.DecodeInvertsEncode := by
  intro i hw
  cases i with
  | new a tp => exact decode_encode_new tp hw
  | setMaster v => exact decode_encode_setMaster hw
  | setChannel c v =>
    obtain ⟨hc, hv⟩ := Bool.and_eq_true_iff.mp hw
    exact decode_encode_setChannel hc hv
  | setMute enabled => cases enabled <;> rfl
  | init | clear | muteOn | muteOff | fClear | fMuteOn | fMuteOff => rfl
  | master10db k | ch1x10db k | ch2x10db k | ch3x10db k | ch4x10db k | ch5x10db k | ch6x10db k
  | master1db k | ch1x1db k | ch2x1db k | ch3x1db k | ch4x1db k | ch5x1db k | ch6x1db k =>
    exact decode_stepByte (by decide) (fun b hb hn => by simp_all [decodeWire]) k
  | fMaster t o | fCh1 t o | fCh2 t o | fCh3 t o | fCh4 t o | fCh5 t o | fCh6 t o =>
    exact decode_volumeFrame (by decide) (by decide) (fun b0 b1 h0 h1 hn => by simp_all [decodeFrame]) t o

/-- Settles O38: each row's fixed bits and fields are all the bits of its place. -/
theorem encodeInvertsDecode : Obligations.EncodeInvertsDecode := by
  intro e i h
  cases e with
  | command w => exact encode_of_decodeCommand h
  | wire b => exact encode_of_decodeWire h
  | frame b0 b1 => exact encode_of_decodeFrame h

/-! ### The reserved command words -/

/-- A word without a reading stops the block at the command port (R94, R258). -/
theorem fetch_reserved {s : State} {w : CmdWord} {rest : List CmdWord} {e : DecodeError}
    (hp : s.phase = .off ∨ s.phase = .ready) (hw : s.cmdIn = w :: rest) (hd : decodeCommand w = .error e) :
    fetch s = .reject .reservedCommand := by
  rw [fetch_commandPort hp]
  simp [fetchCommand, hw, decode, hd, fetched]

/-- A command word is without a reading exactly when it fits none of the five rows (R92, R94). -/
theorem decodeCommand_eq_error_iff (w : CmdWord) :
    (∃ e, decodeCommand w = .error e) ↔
      w &&& 0xFE00 ≠ 0x0000 ∧ w &&& 0xFFFF ≠ 0x2000 ∧ w &&& 0xFF00 ≠ 0x4000 ∧ w &&& 0xF000 ≠ 0x6000 ∧
        w &&& 0xFFFE ≠ 0x8000 := by
  unfold decodeCommand
  split_ifs <;> simp_all

/-- A row that fixes bits 15..`a` of a word fixes its number without its lowest `a` bits. -/
theorem word_row_iff (w m v : CmdWord) (a n : Nat) (hm : m = BitVec.allOnes 16 <<< a)
    (hv : v.toNat = n * 2 ^ a) : w &&& m = v ↔ w.toNat / 2 ^ a = n := by
  rw [← BitVec.toNat_inj, word_high_bits w m a hm, hv]
  exact Nat.mul_left_inj (by positivity)

/-- Settles O39: a word fits none of the five rows exactly when its number, split at bit 13, lies outside all of
them. -/
theorem reservedCommandWordsHaveNoReading : Obligations.ReservedCommandWordsHaveNoReading := by
  refine ⟨fun s w rest e hr hp hw hd => step_reject hr (fetch_reserved hp hw hd), fun w => ?_⟩
  have hnew : w &&& 0xFE00 = 0x0000 ↔ w.toNat / 8192 = 0 ∧ w.toNat / 512 % 16 = 0 :=
    (word_row_iff w 0xFE00 0x0000 9 0 (by decide) rfl).trans (by omega)
  have hinit : w &&& 0xFFFF = 0x2000 ↔ w.toNat / 8192 = 1 ∧ w.toNat % 8192 = 0 :=
    (word_row_iff w 0xFFFF 0x2000 0 0x2000 (by decide) rfl).trans (by omega)
  have hmaster : w &&& 0xFF00 = 0x4000 ↔ w.toNat / 8192 = 2 ∧ w.toNat / 256 % 32 = 0 :=
    (word_row_iff w 0xFF00 0x4000 8 0x40 (by decide) rfl).trans (by omega)
  have hchannel : w &&& 0xF000 = 0x6000 ↔ w.toNat / 8192 = 3 ∧ w.toNat / 4096 % 2 = 0 :=
    (word_row_iff w 0xF000 0x6000 12 0x6 (by decide) rfl).trans (by omega)
  have hmute : w &&& 0xFFFE = 0x8000 ↔ w.toNat / 8192 = 4 ∧ w.toNat % 8192 / 2 = 0 :=
    (word_row_iff w 0xFFFE 0x8000 1 0x4000 (by decide) rfl).trans (by omega)
  rw [decodeCommand_eq_error_iff, ne_eq, hnew, ne_eq, hinit, ne_eq, hmaster, ne_eq, hchannel, ne_eq, hmute]
  generalize w.toNat / 8192 = op
  obtain hop | rfl | rfl | rfl | rfl | rfl :
      5 ≤ op ∨ op = 0 ∨ op = 1 ∨ op = 2 ∨ op = 3 ∨ op = 4 := by omega
  · exact iff_of_true (by omega) (.inl hop)
  all_goals simp

/-! ### Steps, bytes and words written out -/

/-- Settles O19: the meaning of each wire op-code and each frame tests its step first. -/
theorem neverEmittedStepsAreRefused : Obligations.NeverEmittedStepsAreRefused := by
  intro i s hk hw
  cases hkind : i.kind with
  | command => exact absurd hkind hk
  | wireByte =>
    obtain ⟨_, -, he⟩ := exec_wireByte hkind
    simp [he, hw]
  | frame =>
    obtain ⟨_, _, -, he⟩ := exec_frame hkind
    simp [he, hw]

/-- Settles O40: a count over the 256 bytes: 3 control codes, 7 op-codes of 8 steps, 7 of 10. -/
theorem oneHundredTwentyNineBytesAreEmitted : Obligations.OneHundredTwentyNineBytesAreEmitted := by
  unfold Obligations.OneHundredTwentyNineBytesAreEmitted
  decide +kernel

/-- Settles O41: each word by its row. -/
theorem sampleWordsDecode : Obligations.SampleWordsDecode :=
  ⟨rfl, rfl, rfl, rfl, rfl, rfl, rfl, rfl, rfl, rfl⟩

end Sys2Proof.Proofs
end

section
/-! PROOFS. The construction checks of NEW on the port layer (O2), and the results each command can end with on the
command layer (O48). -/

namespace Sys2Proof.Proofs

open Sys2Proof.Machine Sys2Proof.Safety

/-! ### The checks of NEW -/

/-- A NEW that is accepted leaves phase OFF, so it is not a rejection, which leaves the phase as it was. -/
theorem exec_new_ne_rejected {s : State} (hp : s.phase = .off) {address : Int} (ha : address ∈ Config.addr8Set)
    (e : CommandError) : exec (.new address true) s ≠ .next (rejected s e) := by
  intro h
  rw [exec_new_accepted hp ha] at h
  have hphase : Phase.settle = s.phase := congrArg State.phase (Host.Outcome.next.inj h)
  rw [hp] at hphase
  cases hphase

/-- Settles O2: the transport is tested before the address, and an address that passes enters the settle delay. -/
theorem newReportsConfigurationErrors : Obligations.NewReportsConfigurationErrors :=
  fun _ address hp =>
    ⟨exec_new_noTransport hp address,
     fun hrejected hlegal => exec_new_ne_rejected hp hlegal _ hrejected,
     fun hillegal => exec_new_badAddress hp hillegal⟩

/-! ### The results of the command layer -/

theorem result_of_rejectedWith {c : Controller} {e : CommandError} {out : Completed}
    (h : rejectedWith c e = some out) : out.result = .err e := by
  cases h
  rfl

theorem result_of_writtenBy {c : Controller} {before : List Event} {payload : Byte × Byte} {t : TxStatus}
    {out : Completed} (h : writtenBy c before payload t = some out) : out.result = translateAnswer t := by
  unfold writtenBy at h
  split at h
  · cases h
  · cases h
    rfl

theorem result_of_constructed {a : Addr7} {t : TxStatus} {out : Completed} (h : constructed a t = some out) :
    out.result = translateAnswer t := by
  cases h
  rfl

/-- Where the result of the command `i` comes from: the transport's answer `t`, a check of NEW (R122), or a check of
a volume command (R177, R192). -/
inductive ResultSource (i : Instr) (t : TxStatus) (r : Result) : Prop
  | answer (hr : r = translateAnswer t)
  | configuration (cause : ConfigCause) (hr : r = .err (.configuration cause))
      (hi : ∃ address tp, i = .new address tp)
  | validation (cause : ValidationCause) (hr : r = .err (.validation cause))
      (hi : (∃ v, i = .setMaster v) ∨ ∃ ch v, i = .setChannel ch v)

theorem new_resultSource {address : Int} {tp : Bool} {t : TxStatus} {c : Controller} {out : Completed}
    (h : runCommand (.new address tp) t c = some out) : ResultSource (.new address tp) t out.result := by
  simp only [runCommand] at h
  split_ifs at h
  · exact .configuration _ (result_of_rejectedWith h) ⟨address, tp, rfl⟩
  · exact .answer (result_of_constructed h)
  · exact .configuration _ (result_of_rejectedWith h) ⟨address, tp, rfl⟩

theorem init_resultSource {t : TxStatus} {c : Controller} {out : Completed}
    (h : runCommand .init t c = some out) : ResultSource .init t out.result := by
  simp only [runCommand] at h
  split_ifs at h
  exact .answer (result_of_writtenBy h)

theorem setMaster_resultSource {v : Int} {t : TxStatus} {c : Controller} {out : Completed}
    (h : runCommand (.setMaster v) t c = some out) : ResultSource (.setMaster v) t out.result := by
  simp only [runCommand] at h
  split_ifs at h
  · exact .validation _ (result_of_rejectedWith h) (.inl ⟨v, rfl⟩)
  · exact .answer (result_of_writtenBy h)

theorem setChannel_resultSource {channel v : Int} {t : TxStatus} {c : Controller} {out : Completed}
    (h : runCommand (.setChannel channel v) t c = some out) :
    ResultSource (.setChannel channel v) t out.result := by
  have hi : (∃ w, Instr.setChannel channel v = .setMaster w) ∨
      ∃ ch w, Instr.setChannel channel v = .setChannel ch w := .inr ⟨channel, v, rfl⟩
  by_cases hp : c.phase = .ready
  · by_cases hv : v < 0 ∨ 100 < v
    · simp only [runCommand, hp, hv, if_true] at h
      exact .validation _ (result_of_rejectedWith h) hi
    · cases hch : channelIndex channel with
      | none =>
        rw [runCommand_setChannel_outside ((channelIndex_eq_none channel).mp hch) (by omega) (by omega) t hp] at h
        exact .validation _ (result_of_rejectedWith h) hi
      | some ch =>
        obtain rfl := (channelIndex_eq_some channel ch).mp hch
        rw [runCommand_setChannel ch (by omega) (by omega) t hp] at h
        exact .answer (result_of_writtenBy h)
  · simp [runCommand, hp] at h

theorem setMute_resultSource {enabled : Bool} {t : TxStatus} {c : Controller} {out : Completed}
    (h : runCommand (.setMute enabled) t c = some out) : ResultSource (.setMute enabled) t out.result := by
  simp only [runCommand] at h
  split_ifs at h <;> exact .answer (result_of_writtenBy h)

/-- The table of R245: every result of the command layer has one of the three sources. -/
theorem resultSource_of_runCommand {i : Instr} {t : TxStatus} {c : Controller} {out : Completed}
    (h : runCommand i t c = some out) : ResultSource i t out.result := by
  cases i with
  | new address tp => exact new_resultSource h
  | init => exact init_resultSource h
  | setMaster v => exact setMaster_resultSource h
  | setChannel channel v => exact setChannel_resultSource h
  | setMute enabled => exact setMute_resultSource h
  | _ => cases h

/-- A constructed controller with the address 0x44. -/
def readyController : Controller := { phase := .ready, ctor := false, addr7 := some 0x44 }

/-- Each command has operands and a controller with which it reaches the bus, whatever the answer. -/
theorem runCommand_reaches_bus (t : TxStatus) :
    ∀ i ∈ ([.new 0x8C true, .init, .setMaster 0, .setChannel 5 100, .setMute true] : List Instr),
      ∃ c out, runCommand i t c = some out ∧ out.result = translateAnswer t := by
  simp only [List.forall_mem_cons]
  exact ⟨⟨State.reset.controller, _, rfl, rfl⟩, ⟨readyController, _, rfl, rfl⟩, ⟨readyController, _, rfl, rfl⟩,
    ⟨readyController, _, rfl, rfl⟩, ⟨readyController, _, rfl, rfl⟩, List.forall_mem_nil _⟩

/-- Settles O48: each result by its source, and each source by a command that has it. -/
theorem eachCommandHasItsResults : Obligations.EachCommandHasItsResults := by
  refine ⟨fun i t c out h => ?_, ⟨State.reset.controller, _, .noTransport, rfl, rfl⟩,
    ⟨readyController, _, .volume, rfl, rfl⟩, ⟨readyController, _, .channel, rfl, rfl⟩,
    fun i hi t => runCommand_reaches_bus t i hi⟩
  cases resultSource_of_runCommand h with
  | answer hr => rw [hr]; cases t <;> rfl
  | configuration cause hr hi => rw [hr]; exact hi
  | validation cause hr hi => rw [hr]; exact hi

end Sys2Proof.Proofs
end

section
/-! PROOFS. MAP_VOLUME and SPLIT (spec/41_map_volume.md): the clamp, the attenuation and its properties, the one
admitted tuple, and the digits (O10, O11, O12, O13). -/

namespace Sys2Proof.Proofs

open Sys2Proof.Machine Sys2Proof.Safety

/-! ### The clamp -/

theorem clamp_of_lt (v lo hi : Int) (h : v < lo) : clamp v lo hi = lo :=
  if_pos h

theorem clamp_of_gt (v lo hi : Int) (hle : lo ≤ hi) (h : hi < v) : clamp v lo hi = hi := by
  rw [clamp, if_neg (by omega), if_pos h]

theorem clamp_eq_max_min (v lo hi : Int) (hle : lo ≤ hi) : clamp v lo hi = max lo (min v hi) := by
  unfold clamp
  split_ifs <;> omega

theorem clamp_mem (v lo hi : Int) (hle : lo ≤ hi) : lo ≤ clamp v lo hi ∧ clamp v lo hi ≤ hi := by
  rw [clamp_eq_max_min v lo hi hle]
  exact ⟨le_max_left _ _, max_le hle (min_le_right _ _)⟩

theorem clamp_mono {v w lo hi : Int} (hle : lo ≤ hi) (h : v ≤ w) : clamp v lo hi ≤ clamp w lo hi := by
  rw [clamp_eq_max_min v lo hi hle, clamp_eq_max_min w lo hi hle]
  gcongr

/-! ### MAP_VOLUME inside and outside the range of volumes -/

theorem mapVolume_of_mem {v : Int} (h0 : 0 ≤ v) (h1 : v ≤ 100) :
    mapVolume v 0 100 0 79 = .ok ((100 - v) * 79 / 100) := by
  rw [mapVolume_admitted, clamp_of_mem v 0 100 h0 h1]

theorem mapVolume_of_neg {v : Int} (h : v < 0) : mapVolume v 0 100 0 79 = .ok 79 := by
  rw [mapVolume_admitted, clamp_of_lt v 0 100 h]
  rfl

theorem mapVolume_of_gt {v : Int} (h : 100 < v) : mapVolume v 0 100 0 79 = .ok 0 := by
  rw [mapVolume_admitted, clamp_of_gt v 0 100 (by decide) h]
  rfl

/-- Settles O10: the clamp keeps a volume of the range, and any other goes to the nearer end. -/
theorem mapVolumeClampsFlipsRescales : Obligations.MapVolumeClampsFlipsRescales :=
  fun _ => ⟨mapVolume_of_mem, mapVolume_of_neg, mapVolume_of_gt⟩

/-- Settles O11: the guard of MAP_VOLUME is the equality of the two tuples. -/
theorem mapVolumeAdmitsOneTuple : Obligations.MapVolumeAdmitsOneTuple := by
  intro v a b c d
  by_cases h : (a, b, c, d) = ((0, 100, 0, 79) : Int × Int × Int × Int)
  · obtain ⟨rfl, rfl, rfl, rfl⟩ : a = 0 ∧ b = 100 ∧ c = 0 ∧ d = 79 := by simpa using h
    simp [mapVolume_admitted]
  · have hguard : ¬ (a = 0 ∧ b = 100 ∧ c = 0 ∧ d = 79) := by simpa using h
    exact iff_of_true (if_neg hguard) h

/-! ### The properties of the attenuation (R145) -/

theorem mapVolume_range (v : Int) : ∃ a, mapVolume v 0 100 0 79 = .ok a ∧ 0 ≤ a ∧ a ≤ 79 := by
  have ⟨h0, h1⟩ := clamp_mem v 0 100 (by decide)
  exact ⟨_, mapVolume_admitted v, by omega, by omega⟩

theorem mapVolume_antitone {v w a b : Int} (h : v ≤ w) (ha : mapVolume v 0 100 0 79 = .ok a)
    (hb : mapVolume w 0 100 0 79 = .ok b) : b ≤ a := by
  rw [mapVolume_admitted] at ha hb
  cases ha
  cases hb
  have hclamp : clamp v 0 100 ≤ clamp w 0 100 := clamp_mono (by decide) h
  omega

/-- Adding 79 before a division by 100 keeps the quotient when the remainder leaves room for it. -/
theorem ediv_eq_add_ediv_iff (x : Int) : x / 100 = (x + 79) / 100 ↔ x % 100 < 21 := by
  omega

/-- The products of a volume and its predecessor are 79 apart, and `(100 - v) * 79` leaves the remainder of
`21 * v`. -/
theorem mapVolume_eq_pred_iff {v : Int} (h1 : 1 ≤ v) (h100 : v ≤ 100) :
    mapVolume v 0 100 0 79 = mapVolume (v - 1) 0 100 0 79 ↔ 21 * v % 100 < 21 := by
  have hpred : (100 - (v - 1)) * 79 = (100 - v) * 79 + 79 := by ring
  have hmod : (100 - v) * 79 % 100 = 21 * v % 100 := by omega
  rw [mapVolume_of_mem (by omega) h100, mapVolume_of_mem (by omega) (by omega), Except.ok.injEq, hpred,
    ediv_eq_add_ediv_iff, hmod]

/-- The tie of index `k`, for `k` in 0..20: the least volume `v` with `100 * (k + 1) ≤ 21 * v`. -/
def tieVolume (k : Nat) : Int := (100 * (k + 1) + 20) / 21

theorem mem_tieVolumes_iff {v : Int} (h1 : 1 ≤ v) (h100 : v ≤ 100) :
    v ∈ (List.range 21).map tieVolume ↔ 21 * v % 100 < 21 := by
  simp only [List.mem_map, List.mem_range, tieVolume]
  constructor
  · rintro ⟨k, -, rfl⟩
    have hquot : 21 * ((100 * ((k : Int) + 1) + 20) / 21) / 100 = k + 1 := by omega
    omega
  · intro h
    have hquot : 1 ≤ 21 * v / 100 := by omega
    exact ⟨(21 * v / 100 - 1).toNat, by omega, by omega⟩

/-- The 21 volumes that R145 lists. -/
theorem tieVolumes_eq :
    (List.range 21).map tieVolume =
      [5, 10, 15, 20, 24, 29, 34, 39, 43, 48, 53, 58, 62, 67, 72, 77, 81, 86, 91, 96, 100] := by decide

/-- R145: a volume has the attenuation of its predecessor exactly at the listed ties. -/
theorem mapVolume_eq_pred_iff_mem {v : Int} (h1 : 1 ≤ v) (h100 : v ≤ 100) :
    mapVolume v 0 100 0 79 = mapVolume (v - 1) 0 100 0 79 ↔ v ∈ (List.range 21).map tieVolume :=
  (mapVolume_eq_pred_iff h1 h100).trans (mem_tieVolumes_iff h1 h100).symm

/-- Every attenuation is reached, by the greatest volume whose product `(100 - v) * 79` is at least `100 * a`. -/
theorem mapVolume_onto {a : Int} (h0 : 0 ≤ a) (h79 : a ≤ 79) :
    ∃ v, 0 ≤ v ∧ v ≤ 100 ∧ mapVolume v 0 100 0 79 = .ok a := by
  have hv0 : 0 ≤ 100 - (100 * a + 78) / 79 := by omega
  have hv100 : 100 - (100 * a + 78) / 79 ≤ 100 := by omega
  refine ⟨_, hv0, hv100, ?_⟩
  rw [mapVolume_of_mem hv0 hv100, Except.ok.injEq]
  omega

/-- The closed form `79 - ceil(79 * v / 100)`. -/
theorem mapVolume_eq_ceil {v : Int} (h0 : 0 ≤ v) (h1 : v ≤ 100) :
    mapVolume v 0 100 0 79 = .ok (79 - (79 * v + 99) / 100) := by
  rw [mapVolume_of_mem h0 h1, Except.ok.injEq]
  omega

/-- Settles O12: range and direction come from the clamp, the rest from the formula inside the range. -/
theorem attenuationProperties : Obligations.AttenuationProperties :=
  ⟨mapVolume_range, fun _ _ _ _ => mapVolume_antitone,
    fun _ h1 h100 => tieVolumes_eq ▸ mapVolume_eq_pred_iff_mem h1 h100,
    fun _ => mapVolume_onto, fun _ => mapVolume_eq_ceil, fun _ => ⟨mapVolume_of_neg, mapVolume_of_gt⟩⟩

/-! ### SPLIT -/

theorem splitDigits_recompose (a : Int) : 10 * (splitDigits a).1 + (splitDigits a).2 = a :=
  Int.mul_ediv_add_emod a 10

theorem splitDigits_tens_range {a : Int} (h0 : 0 ≤ a) (h79 : a ≤ 79) :
    0 ≤ (splitDigits a).1 ∧ (splitDigits a).1 ≤ 7 := by
  unfold splitDigits
  omega

theorem splitDigits_ones_range (a : Int) : 0 ≤ (splitDigits a).2 ∧ (splitDigits a).2 ≤ 9 := by
  unfold splitDigits
  omega

/-- Settles O13: quotient and remainder by 10 are the digits of an attenuation. -/
theorem splitGivesDecimalDigits : Obligations.SplitGivesDecimalDigits := by
  intro a h0 h79
  obtain ⟨htens0, htens7⟩ := splitDigits_tens_range h0 h79
  exact ⟨rfl, (splitDigits_recompose a).symm, htens0, htens7, splitDigits_ones_range a⟩

end Sys2Proof.Proofs
end

section
/-! PROOFS. The operand tests of SET_CHANNEL (O7). -/

namespace Sys2Proof.Proofs

open Sys2Proof.Machine Sys2Proof.Safety

/-- The channels 0..5, both bounds included, are the six indices of R191. -/
theorem exists_fin_of_channel_mem {c : Int} (h0 : 0 ≤ c) (h5 : c ≤ 5) : ∃ ch : Fin 6, c = (ch.val : Int) :=
  ⟨⟨c.toNat, by omega⟩, (Int.toNat_of_nonneg h0).symm⟩

/-- Settles O7: the volume test goes first, so its cause needs nothing of the channel; a good volume leaves the channel
to decide. -/
theorem setChannelRejectsOutOfRange : Obligations.SetChannelRejectsOutOfRange := by
  intro s c v hp
  refine ⟨?badVolume, ?badChannel, ?accepted⟩
  case badVolume =>
    intro hv
    exact exec_setChannel_badVolume hp c (volumeInRange_eq_false hv)
  case badChannel =>
    intro h0 h100 hc
    exact exec_setChannel_badChannel hp ((volumeInRange_iff v).mpr ⟨h0, h100⟩) ((channelIndex_eq_none c).mpr hc)
  case accepted =>
    intro h0 h100 hc0 hc5
    obtain ⟨ch, rfl⟩ := exists_fin_of_channel_mem hc0 hc5
    obtain ⟨l, he, -⟩ := exec_setChannel_writing hp ch h0 h100
    exact ⟨l, he⟩

end Sys2Proof.Proofs
end

section
/-! PROOFS. The idle clock of the command port (O30) and the codes of the result port (O36). -/

namespace Sys2Proof.Proofs

open Sys2Proof.Machine Sys2Proof.Safety

/-! ### The command port with nothing presented -/

/-- R263: where the command port is read and no command stands on it, there is nothing to run. -/
theorem fetch_no_command {s : State} (hp : s.phase = .off ∨ s.phase = .ready) (hc : s.cmdIn = []) :
    fetch s = .idle := by
  rw [fetch_commandPort hp, fetchCommand, hc]

/-- Settles O30: neither the phase nor the command port changes before the fetch, which finds nothing. -/
theorem theBlockIdlesWithoutACommand : Obligations.TheBlockIdlesWithoutACommand :=
  fun s hr hp hc => step_idle hr (fetch_no_command (s := s.nextClock) hp hc)

/-! ### The codes of the result port -/

@[simp] theorem rspErr_ok : rspErr .ok = 0 := rfl
@[simp] theorem rspErr_configuration (c : ConfigCause) : rspErr (.err (.configuration c)) = 1 := rfl
@[simp] theorem rspErr_validation (c : ValidationCause) : rspErr (.err (.validation c)) = 2 := rfl
@[simp] theorem rspErr_deviceNotFound : rspErr (.err .deviceNotFound) = 3 := rfl
@[simp] theorem rspErr_communication (d : Detail) : rspErr (.err (.communication d)) = 4 := rfl

/-- Settles O36: the five kinds of result have five different codes, so each code names its kind; the cause tags and
the detail are read out of the tables. -/
theorem resultPortCodes : Obligations.ResultPortCodes := by
  refine ⟨fun r => ?codes, rfl, rfl, rfl, rfl, fun _ => rfl⟩
  case codes =>
    cases r with
    | ok => simp
    | err e =>
      cases e with
      | configuration c => simp
      | validation c => simp
      | deviceNotFound => simp
      | communication d => simp

end Sys2Proof.Proofs
end

section
/-! PROOFS. The reset state, the base case of the two invariants that every step keeps (O42). -/

namespace Sys2Proof.Proofs

open Sys2Proof.Machine Sys2Proof.Safety

/-- R280: reset leaves phase OFF with nothing stored, both pulses low, and a trace that has not begun. -/
theorem legal_reset : Legal State.reset := by
  have hpulses : pulsesLegal State.reset := pulsesLegal_of_low rfl rfl
  have htrace : traceState State.reset.trace = .unbooted := rfl
  exact (legal_off rfl).mpr ⟨⟨rfl, rfl, rfl⟩, .inl htrace, hpulses, rfl⟩

/-- At reset no transaction has been answered and no command has ended. -/
theorem answersAreResults_reset : answersAreResults State.reset := rfl

/-- Settles O42: the reset state as a legal state of phase OFF, with nothing observed yet. -/
theorem resetIsLegal : Obligations.ResetIsLegal := ⟨legal_reset, answersAreResults_reset⟩

end Sys2Proof.Proofs
end
